-- ==== Sys2Proof/Word.lean ====
section
/-! DEFINITION. The word types of the Station Line: a character's byte, an object number, a tag, an attention value. -/

namespace Sys2Proof

/-- One character on the line, as a port sees it (R1). -/
abbrev Byte := BitVec 8

/-- A 16-bit object number (R3). -/
abbrev ObjectNumber := BitVec 16

/-- The TAG field, 0..15 (R2). -/
abbrev Tag := BitVec 4

/-- The ATTN field and the attention summary, 0..3 (R2, R150). -/
abbrev Attn := BitVec 2

end Sys2Proof
end

