-- ==== Sys2Proof/Syntax.lean ====
section
/-! DEFINITION. The commands of the block: one constructor of `Instr` for each row of spec/opcode_table.json. -/

namespace Sys2Proof

/-- The two ports: U, upstream, and D, downstream (chapter 2). -/
inductive Port where
  | u
  | d
deriving DecidableEq, Repr

/-- The levels of the strap pins, `true` for a strap tied high: MA6..MA0 as a binary number with MA0 its
least significant bit (R70), DISC (R113), RATE1 and RATE0 (R18). -/
structure Straps where
  ma : BitVec 7
  disc : Bool
  rate1 : Bool
  rate0 : Bool
deriving DecidableEq, Repr

/-- What the receiver finds on its line while it reads one character (R19). DESIGN CHOICE of the operand's
form (log 8). -/
inductive LineEvent where
  /-- The leading edge of a start bit: the receiver, unless it is deaf, is partway through a character from here on. -/
  | startEdge
  /-- The character's samples, `true` for mark, one for each sample interval from the leading edge on;
  samples after the list's end are at mark. They end the character that the last `startEdge` began; with
  none before them they are a whole character as one event. -/
  | samples (levels : List Bool)
deriving DecidableEq, Repr

/-- The commands. A step that takes a frame (`stationRequest` and those of the Management Unit among them)
finds that frame in the holding slot and has no operand of its own. -/
inductive Instr where
  | resetNLow
  | resetEnd (straps : Straps)
  | characterReceived (p : Port) (e : LineEvent)
  | gapLimitExpiry (p : Port)
  | transmitStart (p : Port)
  | frameSent (p : Port) (straps : Straps)
  | deafPeriodEnd
  | stationRequest
  | discoveryWindowExpiry
  | note
  | uAnswerFrame
  | selection
  | dAnswerFrame
  | foreignRequest
  | replyTimeout
  | reAskExpiry (entry : Nat)
  | collectionExpiry (entry : Nat)
  | pauseTimerExpiry
  | ladderStep
  | factorAck
  | factorLevels
  | uPort
  | dPort
  | timing
  | policy
  | pause
  | flush
  | clear
  | restart
  | station
  | countersReadClear
  | portCountersReadClear
  | managementRequest
deriving DecidableEq, Repr

end Sys2Proof
end

