-- ==== Sys2Proof/Config.lean ====
section
/-! DEFINITION. What the part fixes: its capacities, its identity, and the unit its timers count in. -/

namespace Sys2Proof.Config

/-- Station records, one for each address 1..126 (R65, R164). -/
abbrev stationCount : Nat := 126

/-- Exchange Table entries (R41, R164). -/
abbrev entryCount : Nat := 8

/-- Keys the Spent List holds (R54, R164). -/
abbrev spentCount : Nat := 4

/-- The largest payload (R1, R164). -/
abbrev maxPayload : Nat := 64

/-- The value a counter stops at (R33, R83). -/
abbrev counterMax : Nat := 65535

/-- LEAD (R1). -/
def lead : Byte := 0x96

/-- IDENT: vendor 7C31h, part 0264h, revision 03h, and the four capacities (R164). -/
def identity : List Byte := [0x7C, 0x31, 0x02, 0x64, 0x03, 126, 8, 4, 64]

/-- The time unit is a fifth of a CLK period (R18: CLK is 7.3728 MHz), so one sample of a port is
`5 × divisor` units. DEDUCED (log 5). -/
abbrev unitsPerClock : Nat := 5

/-- 1 ms is 7372.8 CLK periods. DEDUCED from R18 (log 5). -/
abbrev unitsPerMs : Nat := 36864

/-- 10 ms, the step of the collection and pause timers (R53, R131). -/
abbrev unitsPer10ms : Nat := 368640

/-- Samples per bit (R18). -/
abbrev samplesPerBit : Nat := 16

end Sys2Proof.Config
end

