-- ==== Sys2Proof/Machine/Types.lean ====
section
/-! DEFINITION. The types of what the blocks of the CZ-264 hold, block by block. -/

namespace Sys2Proof.Machine

/-- The thirteen message kinds (R4). -/
inductive Kind where
  | ask | set | note
  | data | done | fault
  | wait | busy | absent | denied | stale | silent | refused
deriving DecidableEq, Repr

/-- A well-formed frame as the holding slot keeps it and as a frame is formed (R11, R14). LEN is the length of
`payload`. -/
structure FrameRecord where
  addr : Nat
  kind : Kind
  tag : Tag
  posted : Bool
  attn : Attn
  object : ObjectNumber
  payload : List Byte
deriving DecidableEq, Repr

/-! ### Ports (chapter 2) -/

/-- Parity setting (R17, R34). -/
inductive Parity where
  | none | even | odd
deriving DecidableEq, Repr

/-- A port's settings (R34). -/
structure Settings where
  divisor : Nat
  parity : Parity
  stopBits : Nat
  turnaround : Nat
  gapLimit : Nat
deriving DecidableEq, Repr

/-- The error a received character carries (R20). -/
inductive CharError where
  | parity | framing
deriving DecidableEq, Repr

/-- The receiver and the character on its line: none under way, one it is partway through (R19, R28), or one it missed because
that one's start bit fell while it did not listen (R30). -/
inductive Receiver where
  | looking | reading | missed
deriving DecidableEq, Repr

/-- The frame assembler (section 2.2). In COLLECT it holds the characters so far, LEAD first, the error that first
spoiled them, and the time the gap timer has left (R22, R24). -/
inductive Assembler where
  | hunt
  | collect (chars : List Byte) (spoiled : Option CharError) (gap : Nat)
deriving DecidableEq, Repr

/-- The transmitter (section 2.4): no frame, a frame waiting under R28, or a frame on the line with the time until
its last stop bit ends. -/
inductive Transmitter where
  | idle
  | waiting (frame : FrameRecord)
  | sending (frame : FrameRecord) (left : Nat)
deriving DecidableEq, Repr

/-- The names of a port's eleven counters (R32). -/
inductive PortCounter where
  | framesIn | framesOut | checkErr | parityErr | framingErr | truncated | oversize | overrun | stray | malformed
  | unexpected
deriving DecidableEq, Repr

/-- A port's counter record (R32). -/
structure PortCounters where
  framesIn : Nat
  framesOut : Nat
  checkErr : Nat
  parityErr : Nat
  framingErr : Nat
  truncated : Nat
  oversize : Nat
  overrun : Nat
  stray : Nat
  malformed : Nat
  unexpected : Nat
deriving DecidableEq, Repr

/-- One port. `sinceLast` is the time since the last character heard or the last stop bit sent, none when there has
been neither since reset (R28, R37). -/
structure PortState where
  live : Settings
  pendingCopy : Settings
  pendingFlag : Bool
  receiver : Receiver
  assembler : Assembler
  slot : Option FrameRecord
  tx : Transmitter
  sinceLast : Option Nat
  counters : PortCounters
deriving DecidableEq, Repr

/-! ### Exchange Table (chapter 3) -/

/-- The key of a request (R9). -/
structure Key where
  addr : Nat
  kind : Kind
  object : ObjectNumber
  tag : Tag
deriving DecidableEq, Repr

/-- An exchange's outcome as held for delivery; no ATTN for SILENT (R39). -/
structure HeldOutcome where
  kind : Kind
  attn : Option Attn
  payload : List Byte
deriving DecidableEq, Repr

/-- The states of an entry that is not FREE, each with what only that state has (R39). -/
inductive Phase where
  | queued
  | onLine
  | farWait (reAskTimer : Nat)
  | ready (outcome : HeldOutcome) (collectionTimer : Nat)
  | withdrawn
deriving DecidableEq, Repr

/-- An entry that is not FREE (R39). An absent posted flag is kept as `false`, an absent payload as `[]`. -/
structure Exchange where
  phase : Phase
  key : Key
  posted : Bool
  discovery : Bool
  cls : Nat
  payload : List Byte
  attempts : Nat
  reAsks : Nat
deriving DecidableEq, Repr

/-! ### Station Table (chapter 4) -/

/-- Where a station lives (R65). -/
inductive Side where
  | unknown | localSide | downstream | screened | self
deriving DecidableEq, Repr

/-- The names of a station's seven counters (R83). -/
inductive StationCounter where
  | admitted | delivered | timeouts | silentOutcomes | discards | lostWrites | busyRefusals
deriving DecidableEq, Repr

/-- A station's counter record (R83). -/
structure StationCounters where
  admitted : Nat
  delivered : Nat
  timeouts : Nat
  silentOutcomes : Nat
  discards : Nat
  lostWrites : Nat
  busyRefusals : Nat
deriving DecidableEq, Repr

/-- A station record (R65). -/
structure StationRecord where
  side : Side
  aliasAddr : Nat
  cls : Nat
  permit : Bool
  level : Nat
  counters : StationCounters
deriving DecidableEq, Repr

/-! ### Request Handler, Dispatcher, timing (chapters 5, 6, 7) -/

/-- What the end of the answer's frame brings with it: nothing more, new U settings (R35), the moment from which new
D settings may apply (R36), or the full restart (R173). -/
inductive AnswerMark where
  | plain | uSettings | dSettings | restart
deriving DecidableEq, Repr

/-- The Request Handler's state with its frame under decision and window timer (R88). A window timer of 0 has run out
and waits for the frame being collected (R100). -/
inductive Handler where
  | idle
  | deciding (frame : FrameRecord)
  | window (frame : FrameRecord) (timer : Nat)
  | answering (mark : AnswerMark)
deriving DecidableEq, Repr

/-- Discovery policy (R112). -/
inductive Policy where
  | closed | opened
deriving DecidableEq, Repr

/-- The Dispatcher's mode, with the pause timer (R114). -/
inductive Mode where
  | run
  | paused (timer : Nat)
deriving DecidableEq, Repr

/-- The Dispatcher's line state with the entry on the line, the downstream address and the reply timer (R114). A reply
timer of 0 has run out and waits for the frame being collected (R126). -/
inductive Line where
  | idle
  | sending (entry : Nat) (addr : Nat)
  | awaiting (entry : Nat) (addr : Nat) (timer : Nat)
deriving DecidableEq, Repr

/-- The ladder step setting (R137). -/
inductive LadderStep where
  | off | ms250 | s1 | s4
deriving DecidableEq, Repr

/-- The eight values of 0012h TIMING (R168). -/
structure Timing where
  replyTimeout : Nat
  retryLimit : Nat
  reAskInterval : Nat
  reAskLimit : Nat
  collectionTime : Nat
  window : Nat
  share : Nat
  ladderStep : LadderStep
deriving DecidableEq, Repr

/-! ### Event Unit and Management Unit (chapters 8, 9) -/

/-- The eleven event factors (R148). -/
inductive Factor where
  | restarted | lostWrite | discarded | capacity | stationQuiet | uLineError | dLineError | pauseEnded | discovered
  | aliasConflict | addressClash
deriving DecidableEq, Repr

/-- A factor's record (R148). -/
structure FactorState where
  pending : Bool
  level : Nat
deriving DecidableEq, Repr

/-- What the read-and-clear memory stores (R178). -/
structure StoredAnswer where
  object : ObjectNumber
  tag : Tag
  payload : List Byte
deriving DecidableEq, Repr

/-- The input pins that are held at a level: the straps as they stand and RESET_N. -/
structure Pins where
  straps : Straps
  resetN : Bool
deriving DecidableEq, Repr

end Sys2Proof.Machine
end

