-- ==== Sys2Proof/Machine/Operands.lean ====
section
/-! DEFINITION. Characters and frames: how a character is read from the line and sent on it, how a frame is built,
checked and judged, and the numbers that stand for kinds, sides and codes in a payload. -/

namespace Sys2Proof.Machine

/-! ### Bytes and numbers -/

/-- The high byte of a 16-bit value. -/
def hiByte (w : BitVec 16) : Byte := w.extractLsb' 8 8

/-- The low byte of a 16-bit value. -/
def loByte (w : BitVec 16) : Byte := w.extractLsb' 0 8

/-- Two bytes, high first, as a 16-bit value (R1). -/
def word16 (hi lo : Byte) : BitVec 16 := hi ++ lo

/-- A number as two payload bytes, high first. -/
def twoBytes (n : Nat) : List Byte := [hiByte (BitVec.ofNat 16 n), loByte (BitVec.ofNat 16 n)]

/-- A number as one payload byte. -/
def oneByte (n : Nat) : Byte := BitVec.ofNat 8 n

/-- A yes/no field (R177). -/
def yesNo (b : Bool) : Byte := if b then 1 else 0

/-- Byte k of a payload, counted from 0; 0 past its end. -/
def byteAt (payload : List Byte) (k : Nat) : Nat := (payload.getD k 0).toNat

/-- Bytes k and k + 1 of a payload as a number, high first. -/
def wordAt (payload : List Byte) (k : Nat) : Nat := 256 * byteAt payload k + byteAt payload (k + 1)

/-! ### Kinds (R4) -/

/-- The KIND value of a kind (R4). -/
def Kind.code : Kind → Byte
  | .ask => 0x01
  | .set => 0x02
  | .note => 0x03
  | .data => 0x11
  | .done => 0x12
  | .fault => 0x13
  | .wait => 0x21
  | .busy => 0x22
  | .absent => 0x23
  | .denied => 0x24
  | .stale => 0x25
  | .silent => 0x26
  | .refused => 0x27

/-- All thirteen kinds. -/
def Kind.all : List Kind :=
  [.ask, .set, .note, .data, .done, .fault, .wait, .busy, .absent, .denied, .stale, .silent, .refused]

/-- The kind a KIND value names, if any (R4). -/
def Kind.ofCode (b : Byte) : Option Kind := Kind.all.find? fun k => k.code == b

/-- Class request: ASK, SET, NOTE (R4). -/
def Kind.isRequest : Kind → Bool
  | .ask => true
  | .set => true
  | .note => true
  | _ => false

/-- The LEN a kind allows (R4). -/
def Kind.lenAllowed (k : Kind) (n : Nat) : Bool :=
  match k with
  | .set => decide (n ≤ 64)
  | .note => decide (n ≤ 64)
  | .data => decide (n ≤ 64)
  | .fault => decide (1 ≤ n ∧ n ≤ 64)
  | .refused => decide (n = 2)
  | _ => decide (n = 0)

/-! ### CTRL (R2) -/

/-- CTRL with bit 7 clear, ATTN in bits 6..5, POSTED in bit 4, TAG in bits 3..0 (R2). -/
def ctrlByte (tag : Tag) (posted : Bool) (attn : Attn) : Byte :=
  (0#1 ++ attn) ++ (BitVec.ofBool posted ++ tag)

/-- TAG of a CTRL (R2). -/
def ctrlTag (c : Byte) : Tag := c.extractLsb' 0 4

/-- POSTED of a CTRL (R2). -/
def ctrlPosted (c : Byte) : Bool := c.getLsbD 4

/-- ATTN of a CTRL (R2). -/
def ctrlAttn (c : Byte) : Attn := c.extractLsb' 5 2

/-! ### The check (R8) -/

/-- One bit fed into the check register (R8). -/
def checkBit (reg : BitVec 16) (bit : Bool) : BitVec 16 :=
  if reg.msb != bit then (reg <<< 1) ^^^ 0x1021#16 else reg <<< 1

/-- One byte fed in, most significant bit first (R8). -/
def checkByte (reg : BitVec 16) (b : Byte) : BitVec 16 :=
  [7, 6, 5, 4, 3, 2, 1, 0].foldl (fun r k => checkBit r (b.getLsbD k)) reg

/-- The check over a run of bytes (R8). -/
def check (bytes : List Byte) : BitVec 16 := bytes.foldl checkByte 0xFFFF#16

/-! ### Frames (R1, R14) -/

/-- The characters the check covers, ADDR to the last payload character (R1, R8). -/
def FrameRecord.body (f : FrameRecord) : List Byte :=
  [oneByte f.addr, f.kind.code, ctrlByte f.tag f.posted f.attn, hiByte f.object, loByte f.object,
    oneByte f.payload.length] ++ f.payload

/-- All the characters of a frame as sent, LEAD to CHECK (R1, R14). -/
def FrameRecord.chars (f : FrameRecord) : List Byte :=
  Config.lead :: f.body ++ [hiByte (check f.body), loByte (check f.body)]

/-- LEN + 9 (R1). -/
def frameLength (len : Nat) : Nat := len + 9

/-- LEN of a frame being collected, its seventh character (R22). -/
def collectedLen (chars : List Byte) : Nat := byteAt chars 6

/-- The characters the check covers in a frame collected in full. -/
def collectedBody (chars : List Byte) : List Byte := (chars.drop 1).take (chars.length - 3)

/-- The check of a frame collected in full equals its CHECK field (R8, R25). -/
def checkGood (chars : List Byte) : Bool :=
  check (collectedBody chars) ==
    word16 (chars.getD (chars.length - 2) 0) (chars.getD (chars.length - 1) 0)

/-- The content judgement on a frame whose KIND is known: whether it is malformed (R10, conditions 2 to 8). -/
def contentMalformed (addr : Nat) (kind : Kind) (ctrl : Byte) (len : Nat) : Bool :=
  decide (addr = 127)
  || (decide (addr = 0) && kind != .note)
  || (kind == .note && decide (addr ≠ 0))
  || ctrl.getLsbD 7
  || (ctrlPosted ctrl && kind != .set)
  || (ctrlAttn ctrl != 0 && kind.isRequest)
  || !kind.lenAllowed len

/-- The frame record of a frame collected in full with a good check, or none if it is malformed (R10, R11). -/
def judgeContent (chars : List Byte) : Option FrameRecord :=
  let addr := byteAt chars 1
  let ctrl := chars.getD 3 0
  let len := collectedLen chars
  match Kind.ofCode (chars.getD 2 0) with
  | none => none
  | some kind =>
    if contentMalformed addr kind ctrl len then none
    else some
      { addr := addr, kind := kind, tag := ctrlTag ctrl, posted := ctrlPosted ctrl, attn := ctrlAttn ctrl
        object := word16 (chars.getD 4 0) (chars.getD 5 0), payload := (chars.drop 7).take len }

/-- How a frame collected to its length is judged, each frame under one result (R25). -/
inductive Judgement where
  | discard (c : PortCounter)
  | wellFormed (f : FrameRecord)
deriving DecidableEq, Repr

/-- The judgement of R25, in its order: first character error, check, content. -/
def judgeFrame (chars : List Byte) (spoiled : Option CharError) : Judgement :=
  match spoiled with
  | some .parity => .discard .parityErr
  | some .framing => .discard .framingErr
  | none =>
    if !checkGood chars then .discard .checkErr
    else match judgeContent chars with
      | none => .discard .malformed
      | some f => .wellFormed f

/-! ### Characters on the line (R17 to R20) -/

/-- Bits per character: start, eight data, parity if set, stop bits (R17). -/
def Settings.bitsPerChar (st : Settings) : Nat :=
  1 + 8 + (if st.parity = .none then 0 else 1) + st.stopBits

/-- One bit time in time units (R18). -/
def Settings.bitTime (st : Settings) : Nat := Config.samplesPerBit * (Config.unitsPerClock * st.divisor)

/-- One character time in time units (R17). -/
def Settings.charTime (st : Settings) : Nat := st.bitsPerChar * st.bitTime

/-- The number of ones among eight data bits. -/
def ones (b : Byte) : Nat := ((List.range 8).filter fun k => b.getLsbD k).length

/-- The parity bit a setting asks for with these data bits (R17). -/
def parityBit (parity : Parity) (b : Byte) : Bool :=
  match parity with
  | .none => true
  | .even => decide (ones b % 2 = 1)
  | .odd => decide (ones b % 2 = 0)

/-- The bits of one character as sent, in line order (R17). -/
def charBits (st : Settings) (b : Byte) : List Bool :=
  [false] ++ (List.range 8).map (fun k => b.getLsbD k)
    ++ (if st.parity = .none then [] else [parityBit st.parity b]) ++ List.replicate st.stopBits true

/-- The line at a sample, counted from the leading edge's; at mark past the list's end. -/
def sampleAt (levels : List Bool) (k : Nat) : Bool := levels.getD k true

/-- The sample at the middle of bit k of a character, bit 0 being the start bit (R19). -/
def midSample (k : Nat) : Nat := 8 + Config.samplesPerBit * k

/-- The eight data bits of a character, least significant first, each sampled at its middle (R19). -/
def sampledByte (levels : List Bool) : Byte :=
  (List.range 8).foldl
    (fun acc k => if sampleAt levels (midSample (k + 1)) then acc ||| BitVec.twoPow 8 k else acc) 0#8

/-- A received character as delivered to the assembler (R20). -/
structure RxChar where
  value : Byte
  error : Option CharError
deriving DecidableEq, Repr

/-- What the receiver reads from the samples of one character: none for a false start or where no start bit's edge
is, else the character with its error, parity before framing (R19, R20). -/
def readCharacter (st : Settings) (levels : List Bool) : Option RxChar :=
  if sampleAt levels 0 || sampleAt levels (midSample 0) then none
  else
    let value := sampledByte levels
    let hasParity := st.parity != .none
    let parityBad := hasParity && (sampleAt levels (midSample 9) != parityBit st.parity value)
    let stop := sampleAt levels (midSample (if hasParity then 10 else 9))
    some ⟨value, if parityBad then some .parity else if stop then none else some .framing⟩

/-- The samples a receiver at settings `st` takes of a character sent at the same settings (R17, R18). -/
def charSamples (st : Settings) (b : Byte) : List Bool :=
  (charBits st b).flatMap fun bit => List.replicate Config.samplesPerBit bit

/-- The time a frame takes on the line (R29). -/
def frameTime (st : Settings) (f : FrameRecord) : Nat := f.chars.length * st.charTime

/-- The transmit data pin: the bit on the line while a frame is sent, mark otherwise (R29). -/
def Transmitter.level (st : Settings) : Transmitter → Bool
  | .idle => true
  | .waiting _ => true
  | .sending f left =>
    ((f.chars.flatMap (charBits st)).getD ((frameTime st f - left) / st.bitTime) true)

/-- The driver enable: high while a frame is sent (R29). -/
def Transmitter.driverEnable : Transmitter → Bool
  | .idle => false
  | .waiting _ => false
  | .sending _ _ => true

/-! ### Codes in payloads (R65, R137, R167, R177) -/

/-- Side codes (R65). -/
def Side.code : Side → Nat
  | .unknown => 0
  | .localSide => 1
  | .downstream => 2
  | .screened => 3
  | .self => 4

/-- The side a STATION write's code names; SELF is not among them (R75). -/
def Side.ofWriteCode : Nat → Option Side
  | 0 => some .unknown
  | 1 => some .localSide
  | 2 => some .downstream
  | 3 => some .screened
  | _ => none

/-- Parity codes (R167). -/
def Parity.code : Parity → Nat
  | .none => 0
  | .even => 1
  | .odd => 2

/-- The parity a code names (R167); codes above 2 are refused before they get here. -/
def Parity.ofCode : Nat → Parity
  | 0 => .none
  | 1 => .even
  | _ => .odd

/-- Ladder step codes (R137). -/
def LadderStep.code : LadderStep → Nat
  | .off => 0
  | .ms250 => 1
  | .s1 => 2
  | .s4 => 3

/-- The ladder step a code names (R137); codes above 3 are refused before they get here. -/
def LadderStep.ofCode : Nat → LadderStep
  | 0 => .off
  | 1 => .ms250
  | 2 => .s1
  | _ => .s4

/-- The period of the step timer, none for OFF (R137). -/
def LadderStep.period : LadderStep → Option Nat
  | .off => none
  | .ms250 => some (250 * Config.unitsPerMs)
  | .s1 => some (1000 * Config.unitsPerMs)
  | .s4 => some (4000 * Config.unitsPerMs)

/-- Discovery policy codes (R177). -/
def Policy.code : Policy → Byte
  | .closed => 0
  | .opened => 1

/-- The entry state codes, `none` standing for FREE (R177). -/
def entryStateCode : Option Exchange → Nat
  | none => 0
  | some x =>
    match x.phase with
    | .queued => 1
    | .onLine => 2
    | .farWait _ => 3
    | .ready _ _ => 4
    | .withdrawn => 5

/-- A timer's time left in units of `unit`, rounded up; a running timer never shows 0 (R162). -/
def roundUp (unit left : Nat) : Nat := max 1 ((left + unit - 1) / unit)

/-- The settings a port SET carries, bytes 1 to 6 (R180). -/
def Settings.ofPayload (payload : List Byte) : Settings :=
  { divisor := wordAt payload 0, parity := .ofCode (byteAt payload 2), stopBits := byteAt payload 3
    turnaround := byteAt payload 4, gapLimit := byteAt payload 5 }

/-- Whether each field of a port SET is allowed, in field order (R167). -/
def settingsFields (payload : List Byte) : List Bool :=
  [decide (1 ≤ wordAt payload 0 ∧ wordAt payload 0 ≤ 1023), decide (byteAt payload 2 ≤ 2),
    decide (1 ≤ byteAt payload 3 ∧ byteAt payload 3 ≤ 2), decide (byteAt payload 4 ≤ 15),
    decide (1 ≤ byteAt payload 5 ∧ byteAt payload 5 ≤ 15)]

/-- Settings as six payload bytes (R180). -/
def Settings.toPayload (st : Settings) : List Byte :=
  twoBytes st.divisor ++
    [oneByte st.parity.code, oneByte st.stopBits, oneByte st.turnaround, oneByte st.gapLimit]

/-- The timing values a TIMING SET carries (R168, R180). -/
def Timing.ofPayload (payload : List Byte) : Timing :=
  { replyTimeout := byteAt payload 0, retryLimit := byteAt payload 1, reAskInterval := byteAt payload 2
    reAskLimit := byteAt payload 3, collectionTime := byteAt payload 4, window := byteAt payload 5
    share := byteAt payload 6, ladderStep := .ofCode (byteAt payload 7) }

/-- Whether each field of a TIMING SET is allowed, in field order (R168). -/
def timingFields (payload : List Byte) : List Bool :=
  [decide (1 ≤ byteAt payload 0), decide (byteAt payload 1 ≤ 7), decide (1 ≤ byteAt payload 2),
    decide (byteAt payload 3 ≤ 15), decide (1 ≤ byteAt payload 4),
    decide (2 ≤ byteAt payload 5 ∧ byteAt payload 5 ≤ 63), decide (1 ≤ byteAt payload 6 ∧ byteAt payload 6 ≤ 8),
    decide (byteAt payload 7 ≤ 3)]

/-- The eight timing values as payload bytes (R168, R180). -/
def Timing.toPayload (t : Timing) : List Byte :=
  [oneByte t.replyTimeout, oneByte t.retryLimit, oneByte t.reAskInterval, oneByte t.reAskLimit,
    oneByte t.collectionTime, oneByte t.window, oneByte t.share, oneByte t.ladderStep.code]

/-- Whether each field of a POLICY SET is allowed (R169). -/
def policyFields (payload : List Byte) : List Bool :=
  [decide (byteAt payload 0 ≤ 1), decide (byteAt payload 1 ≤ 1)]

/-- A station's seven counters as payload bytes (R175). -/
def StationCounters.toPayload (c : StationCounters) : List Byte :=
  twoBytes c.admitted ++ twoBytes c.delivered ++ twoBytes c.timeouts ++ twoBytes c.silentOutcomes ++
    twoBytes c.discards ++ twoBytes c.lostWrites ++ twoBytes c.busyRefusals

/-- A port's eleven counters as payload bytes (R175). -/
def PortCounters.toPayload (c : PortCounters) : List Byte :=
  twoBytes c.framesIn ++ twoBytes c.framesOut ++ twoBytes c.checkErr ++ twoBytes c.parityErr ++
    twoBytes c.framingErr ++ twoBytes c.truncated ++ twoBytes c.oversize ++ twoBytes c.overrun ++
    twoBytes c.stray ++ twoBytes c.malformed ++ twoBytes c.unexpected

/-- The position, from 1, of the first field that is not allowed (R161). -/
def firstBad (fields : List Bool) : Option Nat := (fields.findIdx? (! ·)).map (· + 1)

/-! ### The object map (R160) -/

/-- What an object number names (R160). -/
inductive Object where
  | ident | status | factorAck | factorLevels | uPort | dPort | timing | policy | pause | flush | clear | restart
  | station (s : Nat)
  | counters (s : Nat)
  | countersReadClear (s : Nat)
  | portCounters | portCountersReadClear
  | exchange (i : Nat)
  | unknown
deriving DecidableEq, Repr

/-- The object a number names; the numbers inside the ranges that name no station or entry are unknown (R160). -/
def Object.ofNumber (n : Nat) : Object :=
  if n = 0x0000 then .ident
  else if n = 0x0001 then .status
  else if n = 0x0002 then .factorAck
  else if n = 0x0003 then .factorLevels
  else if n = 0x0010 then .uPort
  else if n = 0x0011 then .dPort
  else if n = 0x0012 then .timing
  else if n = 0x0013 then .policy
  else if n = 0x0020 then .pause
  else if n = 0x0021 then .flush
  else if n = 0x0022 then .clear
  else if n = 0x0023 then .restart
  else if 0x0101 ≤ n ∧ n ≤ 0x017E then .station (n - 0x0100)
  else if 0x0201 ≤ n ∧ n ≤ 0x027E then .counters (n - 0x0200)
  else if 0x0301 ≤ n ∧ n ≤ 0x037E then .countersReadClear (n - 0x0300)
  else if n = 0x0400 then .portCounters
  else if n = 0x0401 then .portCountersReadClear
  else if 0x0500 ≤ n ∧ n ≤ 0x0507 then .exchange (n - 0x0500)
  else .unknown

/-- The objects that answer to ASK (R160). -/
def Object.answersAsk : Object → Bool
  | .factorAck => false
  | .flush => false
  | .clear => false
  | .restart => false
  | .unknown => false
  | _ => true

/-- The reasons of a REFUSED (R161). -/
inductive Reason where
  | unknownObject | wrongKind | badLength | badValue | selfRecord
deriving DecidableEq, Repr

/-- Reason codes (R161). -/
def Reason.code : Reason → Byte
  | .unknownObject => 1
  | .wrongKind => 2
  | .badLength => 3
  | .badValue => 4
  | .selfRecord => 5

/-! ### Which step takes a frame -/

/-- The steps by which the Request Handler takes a frame from the U slot, one for each row of the table that does. -/
inductive Taking where
  | stationRequest | note | uAnswerFrame
  | factorAck | factorLevels | uPort | dPort | timing | policy | pause | flush | clear | restart | station
  | countersReadClear | portCountersReadClear | managementRequest
deriving DecidableEq, Repr

/-- The step that takes a management request: a SET of an object that answers to SET, a read-and-clear, or
any other (R160, R161). -/
def managementTaking (kind : Kind) (o : Object) : Taking :=
  match kind, o with
  | .set, .factorAck => .factorAck
  | .set, .factorLevels => .factorLevels
  | .set, .uPort => .uPort
  | .set, .dPort => .dPort
  | .set, .timing => .timing
  | .set, .policy => .policy
  | .set, .pause => .pause
  | .set, .flush => .flush
  | .set, .clear => .clear
  | .set, .restart => .restart
  | .set, .station _ => .station
  | .ask, .countersReadClear _ => .countersReadClear
  | .ask, .portCountersReadClear => .portCountersReadClear
  | _, _ => .managementRequest

/-- The step that takes frame f: the sorting of section 5.2 by class and address (R92, R93, R94). -/
def takingOf (mgmt : Nat) (f : FrameRecord) : Taking :=
  if !f.kind.isRequest then .uAnswerFrame
  else if f.kind = .note then .note
  else if f.addr ≠ mgmt then .stationRequest
  else managementTaking f.kind (.ofNumber f.object.toNat)

end Sys2Proof.Machine
end

