-- ==== Sys2Proof/Machine/Reset.lean ====
section
/-! DEFINITION. What the straps give, and the condition of each block's parts after a reset. -/

namespace Sys2Proof

/-- The divisor the rate straps give (R18). -/
def Straps.divisor (p : Straps) : Nat :=
  match p.rate1, p.rate0 with
  | false, false => 48
  | false, true => 24
  | true, false => 12
  | true, true => 4

/-- The management address the MA straps give: 0 and 127 are not addresses and give 126 (R70). -/
def Straps.managementAddress (p : Straps) : Nat :=
  if p.ma.toNat = 0 ∨ p.ma.toNat = 127 then 126 else p.ma.toNat

/-- The discovery policy DISC gives (R113). -/
def Straps.policy (p : Straps) : Machine.Policy := if p.disc then .opened else .closed

end Sys2Proof

namespace Sys2Proof.Machine

/-- A port's counters all at 0 (R33). -/
def PortCounters.zero : PortCounters := ⟨0, 0, 0, 0, 0, 0, 0, 0, 0, 0, 0⟩

/-- A station's counters all at 0 (R87). -/
def StationCounters.zero : StationCounters := ⟨0, 0, 0, 0, 0, 0, 0⟩

/-- The settings a port starts with (R34, R37). -/
def Settings.afterReset (p : Straps) : Settings := ⟨p.divisor, .none, 1, 1, 2⟩

/-- A port after reset (R37). -/
def PortState.afterReset (p : Straps) : PortState :=
  { live := .afterReset p, pendingCopy := .afterReset p, pendingFlag := false, receiver := .looking
    assembler := .hunt, slot := none, tx := .idle, sinceLast := none, counters := .zero }

/-- The timing values after reset (R168). -/
def Timing.afterReset : Timing := ⟨20, 2, 10, 8, 50, 4, 4, .s1⟩

/-- Record s after reset (R70, R87). -/
def StationRecord.afterReset (mgmt s : Nat) : StationRecord :=
  { side := if s = mgmt then .self else .unknown, aliasAddr := s, cls := 1, permit := true, level := 1
    counters := .zero }

/-- The factors' default levels in code order (R148). -/
def defaultLevels : List Nat := [3, 2, 1, 1, 1, 0, 1, 0, 0, 2, 2]

/-- The Event Unit after reset: RESTARTED pending, default levels (R157). -/
def factorsAfterReset : List FactorState :=
  (defaultLevels.zip (List.range 11)).map fun x => ⟨x.2 = 0, x.1⟩

end Sys2Proof.Machine
end

