-- ==== Sys2Proof/Machine/State.lean ====
section
/-! DEFINITION. The state of the CZ-264 as plain data, and its condition after reset. -/

namespace Sys2Proof.Machine

/-- The whole part, and the queue of commands that wait. Record s of the Station Table stands at place s - 1 of
`stations`; factor code c at place c - 1 of `factors`; entry i at place i of `entries`, `none` when FREE. -/
structure State where
  pins : Pins
  u : PortState
  d : PortState
  dChangeDue : Bool
  restartDeaf : Option Nat
  entries : List (Option Exchange)
  order : List Nat
  spent : List Key
  timing : Timing
  stations : List StationRecord
  mgmtAddr : Nat
  stepTimer : Option Nat
  handler : Handler
  policy : Policy
  forwarding : Bool
  mode : Mode
  line : Line
  factors : List FactorState
  memory : Option StoredAnswer
  pending : List Instr
deriving DecidableEq, Repr

/-- No step of this block stops with a fault: the spec leaves no behaviour undefined, so the type has no member
(nobody raises one). -/
inductive Fault where
deriving DecidableEq, Repr

/-- Why a command has no outcome. -/
inductive Refusal where
  /-- Raised only by an arm of `exec` whose command has no meaning yet (no arm is such). Safe: the machine stops. -/
  | notModelled (mnemonic : String)
deriving DecidableEq, Repr

/-! ### Reset -/

/-- The condition every block takes when the power-on reset ends or RESET_N goes high, with the straps sampled
(R37, R63, R87, R113, R135, R147, R157, R179). -/
def State.afterReset (p : Straps) : State :=
  { pins := ⟨p, true⟩
    u := .afterReset p
    d := .afterReset p
    dChangeDue := false
    restartDeaf := none
    entries := List.replicate Config.entryCount none
    order := []
    spent := []
    timing := .afterReset
    stations := (List.range Config.stationCount).map fun k => .afterReset p.managementAddress (k + 1)
    mgmtAddr := p.managementAddress
    stepTimer := some (1000 * Config.unitsPerMs)
    handler := .idle
    policy := p.policy
    forwarding := true
    mode := .run
    line := .idle
    factors := factorsAfterReset
    memory := none
    pending := [] }

/-- The strap levels of `State.reset`: all low. DESIGN CHOICE (log 6). -/
def strapsAllLow : Straps := ⟨0, false, false, false⟩

/-- The machine right after reset. -/
def State.reset : State := .afterReset strapsAllLow

end Sys2Proof.Machine
end

