-- ==== Sys2Proof/Machine/Ops.lean ====
section
/-! DEFINITION. The named operations over ports, entries and station records: the one home each has, and every way it
is read or changed. -/

namespace Sys2Proof.Machine

/-! ### Ports -/

/-- One of the two ports. -/
def State.port (s : State) : Port → PortState
  | .u => s.u
  | .d => s.d

/-- Change one port. -/
def State.updatePort (p : Port) (g : PortState → PortState) (s : State) : State :=
  match p with
  | .u => { s with u := g s.u }
  | .d => { s with d := g s.d }

/-- The value of one port counter (R32). -/
def PortCounters.get (c : PortCounters) : PortCounter → Nat
  | .framesIn => c.framesIn
  | .framesOut => c.framesOut
  | .checkErr => c.checkErr
  | .parityErr => c.parityErr
  | .framingErr => c.framingErr
  | .truncated => c.truncated
  | .oversize => c.oversize
  | .overrun => c.overrun
  | .stray => c.stray
  | .malformed => c.malformed
  | .unexpected => c.unexpected

/-- Add one to a counter, which stays at 65535 once there (R33, R83). -/
def countUp (n : Nat) : Nat := if n < Config.counterMax then n + 1 else n

/-- Add one to one port counter (R32). -/
def PortCounters.bump (c : PortCounters) : PortCounter → PortCounters
  | .framesIn => { c with framesIn := countUp c.framesIn }
  | .framesOut => { c with framesOut := countUp c.framesOut }
  | .checkErr => { c with checkErr := countUp c.checkErr }
  | .parityErr => { c with parityErr := countUp c.parityErr }
  | .framingErr => { c with framingErr := countUp c.framingErr }
  | .truncated => { c with truncated := countUp c.truncated }
  | .oversize => { c with oversize := countUp c.oversize }
  | .overrun => { c with overrun := countUp c.overrun }
  | .stray => { c with stray := countUp c.stray }
  | .malformed => { c with malformed := countUp c.malformed }
  | .unexpected => { c with unexpected := countUp c.unexpected }

/-- The driver enable pin, UDE or DDE (R29, R37). -/
def State.driverEnable (s : State) (p : Port) : Bool := (s.port p).tx.driverEnable

/-- The transmit data pin, UTX or DTX (R29, R37). -/
def State.txLevel (s : State) (p : Port) : Bool := (s.port p).tx.level (s.port p).live

/-- A port's receiver takes nothing: RESET_N is low (R37), the port is sending (R30), or the 1 ms after a full restart
runs (R38). -/
def State.deaf (s : State) (p : Port) : Bool :=
  !s.pins.resetN || s.driverEnable p || s.restartDeaf.isSome

/-- The owner hands the transmitter a frame, which waits there (R28). -/
def State.handOver (p : Port) (f : FrameRecord) (s : State) : State :=
  s.updatePort p fun q => { q with tx := .waiting f }

/-- The transmitter holds a frame that has not started (R31). -/
def Transmitter.isWaiting : Transmitter → Bool
  | .waiting _ => true
  | _ => false

/-- The owner withdraws a frame that waits in the D transmitter; a frame that has started is sent whole (R31). -/
def State.withdrawFrame (s : State) : State :=
  if s.d.tx.isWaiting then s.updatePort .d fun q => { q with tx := .idle } else s

/-- The receiver stops reading: it is ready for a new start bit, and what is left of a character under way is not read as that
character (R30). -/
def Receiver.abandon : Receiver → Receiver
  | .looking => .looking
  | .reading => .missed
  | .missed => .missed

/-- Pending settings become live: the flag is cleared and the assembler is in HUNT, a frame being collected dropped with no
report and no count (R34, R35, R36). That a character under way is then lost is a DESIGN CHOICE (log 12). -/
def PortState.applyPending (q : PortState) : PortState :=
  { q with live := q.pendingCopy, pendingFlag := false, receiver := q.receiver.abandon, assembler := .hunt }

/-! ### Station records -/

/-- An address that has a record (R65). -/
def isStation (a : Nat) : Bool := decide (1 ≤ a ∧ a ≤ Config.stationCount)

/-- Record a. For an address with no record, a record of side UNKNOWN that nothing consults. -/
def State.stationAt (s : State) (a : Nat) : StationRecord :=
  if isStation a then s.stations.getD (a - 1) (.afterReset 0 a) else .afterReset 0 a

/-- Change record a; an address with no record has nothing to change. -/
def State.updateStation (a : Nat) (g : StationRecord → StationRecord) (s : State) : State :=
  if isStation a then { s with stations := s.stations.modify (a - 1) g } else s

/-- The value of one station counter (R83). -/
def StationCounters.get (c : StationCounters) : StationCounter → Nat
  | .admitted => c.admitted
  | .delivered => c.delivered
  | .timeouts => c.timeouts
  | .silentOutcomes => c.silentOutcomes
  | .discards => c.discards
  | .lostWrites => c.lostWrites
  | .busyRefusals => c.busyRefusals

/-- Add one to one station counter (R83). -/
def StationCounters.bump (c : StationCounters) : StationCounter → StationCounters
  | .admitted => { c with admitted := countUp c.admitted }
  | .delivered => { c with delivered := countUp c.delivered }
  | .timeouts => { c with timeouts := countUp c.timeouts }
  | .silentOutcomes => { c with silentOutcomes := countUp c.silentOutcomes }
  | .discards => { c with discards := countUp c.discards }
  | .lostWrites => { c with lostWrites := countUp c.lostWrites }
  | .busyRefusals => { c with busyRefusals := countUp c.busyRefusals }

/-- Count an event in the record of station a, whatever side it holds; a NOTE entry's address 0 has no record (R84). -/
def State.countStation (c : StationCounter) (a : Nat) (s : State) : State :=
  s.updateStation a fun r => { r with counters := r.counters.bump c }

/-- A record of side DOWNSTREAM or SCREENED that holds alias a (R72). -/
def StationRecord.holdsAlias (r : StationRecord) (a : Nat) : Bool :=
  (r.side == .downstream || r.side == .screened) && r.aliasAddr == a

/-- The alias lookup of R72: some record other than that of `own` holds alias a. -/
def State.aliasHeldByOther (s : State) (own a : Nat) : Bool :=
  (List.range Config.stationCount).any fun k => k + 1 != own && (s.stationAt (k + 1)).holdsAlias a

/-! ### Exchange Table entries -/

/-- Entry i, `none` when it is FREE. -/
def State.entryAt (s : State) (i : Nat) : Option Exchange := s.entries.getD i none

/-- Store entry i. -/
def State.setEntry (i : Nat) (x : Exchange) (s : State) : State :=
  { s with entries := s.entries.set i (some x) }

/-- Entry i becomes FREE and leaves the Dispatch Order list, if it is in it (R42). -/
def State.freeEntry (i : Nat) (s : State) : State :=
  { s with entries := s.entries.set i none, order := s.order.filter (· ≠ i) }

/-- Neither FREE nor WITHDRAWN (R40). -/
def Exchange.isLive (x : Exchange) : Bool := x.phase != .withdrawn

/-- A QUEUED entry. -/
def Exchange.isQueued (x : Exchange) : Bool := x.phase == .queued

/-- ON_LINE or WITHDRAWN: the entry holds the D line (R41). -/
def Exchange.holdsLine (x : Exchange) : Bool := x.phase == .onLine || x.phase == .withdrawn

/-- The entry belongs to station a: a NOTE entry belongs to none (R39). -/
def Exchange.belongsTo (x : Exchange) (a : Nat) : Bool := x.key.kind != .note && x.key.addr == a

/-- The key of a request (R9). -/
def FrameRecord.key (f : FrameRecord) : Key := ⟨f.addr, f.kind, f.object, f.tag⟩

/-- The live entry that holds a key (R40). -/
def State.liveEntry (s : State) (k : Key) : Option Nat :=
  s.entries.findIdx? fun e => e.any fun x => x.isLive && x.key == k

/-- A station's live count (R40). -/
def State.liveCount (s : State) (a : Nat) : Nat :=
  (s.entries.filter fun e => e.any fun x => x.isLive && x.belongsTo a).length

/-- The lowest-numbered FREE entry (R43). -/
def State.freeIndex (s : State) : Option Nat := s.entries.findIdx? (·.isNone)

/-- The number of entries in the state with a code (R165, R177). -/
def State.entriesInState (s : State) (code : Nat) : Nat :=
  (s.entries.filter fun e => entryStateCode e == code).length

/-- An entry's place in the Dispatch Order list, from 1; 0 when it is not in it (R42, R64). -/
def State.placeOf (s : State) (i : Nat) : Nat :=
  match s.order.findIdx? (· == i) with
  | some k => k + 1
  | none => 0

/-- Take a key out of the Spent List (R56). -/
def State.removeSpent (k : Key) (s : State) : State := { s with spent := s.spent.filter (· ≠ k) }

/-- Put a key at the Spent List's tail, the oldest first leaving a full list (R55). -/
def State.addSpent (k : Key) (s : State) : State :=
  { s with spent := (if s.spent.length < Config.spentCount then s.spent else s.spent.drop 1) ++ [k] }

/-- The D line is free: no entry ON_LINE or WITHDRAWN, and the D transmitter holds no frame (R36). -/
def State.lineFree (s : State) : Bool :=
  s.entries.all (fun e => !e.any Exchange.holdsLine) && s.d.tx == .idle

/-- Pending D settings whose DONE has ended take effect in the event that finds the line free (R36). -/
def State.settleDSettings (s : State) : State :=
  if s.d.pendingFlag && s.dChangeDue && s.lineFree then
    { s with d := s.d.applyPending, dChangeDue := false }
  else s

end Sys2Proof.Machine
end

