-- ==== Sys2Proof/Machine/Flags.lean ====
section
/-! DEFINITION. The event factors and the attention summary, the port counters with the factors they raise, and the
moves of the liveness ladder with theirs. -/

namespace Sys2Proof.Machine

/-- A factor's code, 1..11 (R148). -/
def Factor.code : Factor → Nat
  | .restarted => 1
  | .lostWrite => 2
  | .discarded => 3
  | .capacity => 4
  | .stationQuiet => 5
  | .uLineError => 6
  | .dLineError => 7
  | .pauseEnded => 8
  | .discovered => 9
  | .aliasConflict => 10
  | .addressClash => 11

/-- The record of the factor with a code. -/
def State.factorAt (s : State) (code : Nat) : FactorState := s.factors.getD (code - 1) ⟨false, 0⟩

/-- Raise a factor: it is pending, whatever its level, and its level stays (R149). -/
def State.raise (f : Factor) (s : State) : State :=
  { s with factors := s.factors.modify (f.code - 1) fun x => { x with pending := true } }

/-- The attention summary: the highest level among the pending factors, 0 when none is pending (R150). -/
def State.summaryLevel (s : State) : Nat :=
  (s.factors.map fun x => if x.pending then x.level else 0).foldl max 0

/-- The attention summary as an ATTN field. -/
def State.summary (s : State) : Attn := BitVec.ofNat 2 s.summaryLevel

/-- The codes of the pending factors, ascending (R152). -/
def State.pendingCodes (s : State) : List Nat :=
  ((List.range 11).filter fun k => (s.factorAt (k + 1)).pending).map (· + 1)

/-- The factor that goes with a port counter, if any (R32). -/
def portFactor (p : Port) (c : PortCounter) : Option Factor :=
  match c, p with
  | .framesIn, _ => none
  | .framesOut, _ => none
  | .unexpected, .u => some .addressClash
  | _, .u => some .uLineError
  | _, .d => some .dLineError

/-- Raise a factor if there is one. -/
def State.raiseOpt (f : Option Factor) (s : State) : State :=
  match f with
  | some g => s.raise g
  | none => s

/-- Count an event at a port and raise the factor that goes with it, also when the counter stands at its stop
(R32, R33). -/
def State.countPort (p : Port) (c : PortCounter) (s : State) : State :=
  (s.updatePort p fun q => { q with counters := q.counters.bump c }).raiseOpt (portFactor p c)

/-- Set the ladder level of station a, raising STATION_QUIET when the move takes it from below 8 to 8 (R136). -/
def State.setLevel (a : Nat) (level : Nat) (s : State) : State :=
  if isStation a then
    let s' := s.updateStation a fun r => { r with level := level }
    if (s.stationAt a).level < 8 ∧ level = 8 then s'.raise .stationQuiet else s'
  else s

/-- Advance the ladder level of station a by one, stopping at 8 (R136). -/
def State.advanceLevel (a : Nat) (s : State) : State :=
  s.setLevel a (if (s.stationAt a).level < 8 then (s.stationAt a).level + 1 else 8)

end Sys2Proof.Machine
end

