-- ==== Sys2Proof/Machine/Exchange.lean ====
section
/-! DEFINITION. What happens to an entry of the Exchange Table: admission, selection, settlement, far waits, timeouts,
delivery, collection, withdrawal, flush and clear (chapters 3 and 6), each one operation that every step calls. -/

namespace Sys2Proof.Machine

/-! ### Admission -/

/-- The exchange a request becomes when it is admitted (R43). -/
def newExchange (f : FrameRecord) (discovery : Bool) (cls : Nat) : Exchange :=
  { phase := .queued, key := f.key, posted := f.kind == .set && f.posted, discovery := discovery, cls := cls
    payload := if f.kind = .ask then [] else f.payload, attempts := 0, reAsks := 0 }

/-- Admit a request into entry i: it joins the tail of the Dispatch Order list, its key leaves the Spent List, and
ADMITTED is counted, except for a NOTE (R43). -/
def State.admitInto (i : Nat) (f : FrameRecord) (s : State) : State :=
  let isNote := f.kind == .note
  let rec_ := s.stationAt f.addr
  let x := newExchange f (!isNote && rec_.side == .unknown) (if isNote then 0 else rec_.cls)
  let s := { s.setEntry i x with order := s.order ++ [i] }
  let s := s.removeSpent f.key
  if isNote then s else s.countStation .admitted f.addr

/-! ### Sending -/

/-- The request frame an entry sends to downstream address `addr` (R16). -/
def Exchange.requestFrame (x : Exchange) (addr : Nat) : FrameRecord :=
  { addr := addr, kind := x.key.kind, tag := x.key.tag, posted := x.key.kind == .set && x.posted, attn := 0
    object := x.key.object, payload := x.payload }

/-- The class an entry competes with: its own, or 0 while its station stands at ladder level 8 (R116, R144). -/
def State.effectiveClass (s : State) (x : Exchange) : Nat :=
  if x.key.kind ≠ .note ∧ (s.stationAt x.key.addr).level = 8 then 0 else x.cls

/-- The effective class of entry i, none unless it is QUEUED. -/
def State.candidateClass (s : State) (i : Nat) : Option Nat :=
  match s.entryAt i with
  | some x => if x.isQueued then some (s.effectiveClass x) else none
  | none => none

/-- The entry a selection picks: of the highest effective class among the QUEUED entries, the one nearest the head of
the Dispatch Order list (R116). -/
def State.pick (s : State) : Option Nat :=
  let best := (s.order.filterMap s.candidateClass).foldl max 0
  s.order.find? fun i => s.candidateClass i == some best

/-- The downstream address of an entry's frame: the alias in its station's record, 0 for a NOTE (R16, R117). -/
def State.downstreamAddr (s : State) (x : Exchange) : Nat :=
  if x.key.kind = .note then 0 else (s.stationAt x.key.addr).aliasAddr

/-- One more attempt of entry i on the line to `addr`: attempts rise by one, the frame is handed to the D transmitter
and the line is SENDING (R44, R117, R129). -/
def State.sendAttempt (i : Nat) (x : Exchange) (addr : Nat) (s : State) : State :=
  let s := s.setEntry i { x with phase := .onLine, attempts := x.attempts + 1 }
  let s := s.handOver .d (x.requestFrame addr)
  { s with line := .sending i addr }

/-! ### Settlement -/

/-- Discovery learns that station a lives downstream (R81): an UNKNOWN record becomes DOWNSTREAM with its own address
as alias, or stays UNKNOWN with ALIAS_CONFLICT raised when another record holds that alias. -/
def State.learnDownstream (a : Nat) (s : State) : State :=
  if (s.stationAt a).side ≠ .unknown then s
  else if s.aliasHeldByOther a a then s.raise .aliasConflict
  else (s.updateStation a fun r => { r with side := .downstream, aliasAddr := a }).raise .discovered

/-- The kinds of an outcome that teach discovery (R124). -/
def Kind.teaches : Kind → Bool
  | .data => true
  | .done => true
  | .fault => true
  | _ => false

/-- A posted SET entry is settled by becoming FREE; an outcome other than DONE counts LOST_WRITES and raises
LOST_WRITE (R46). -/
def State.settlePosted (i : Nat) (a : Nat) (kind : Kind) (s : State) : State :=
  let s := s.freeEntry i
  if kind = .done then s else (s.countStation .lostWrites a).raise .lostWrite

/-- An ASK or non-posted SET entry becomes READY: it leaves the Dispatch Order list and its collection timer starts
(R45, R53). -/
def State.settleReady (i : Nat) (x : Exchange) (o : HeldOutcome) (s : State) : State :=
  let timer := s.timing.collectionTime * Config.unitsPer10ms
  let s := s.setEntry i { x with phase := .ready o timer }
  { s with order := s.order.filter (· ≠ i) }

/-- Settle entry i, which holds exchange x, with an outcome, discovery asking first (R122, R124). -/
def State.settle (i : Nat) (x : Exchange) (o : HeldOutcome) (s : State) : State :=
  let s := if x.discovery && o.kind.teaches then s.learnDownstream x.key.addr else s
  if x.posted then s.settlePosted i x.key.addr o.kind else s.settleReady i x o

/-- The outcome SILENT: LEN 0 and no ATTN (R39). -/
def silentOutcome : HeldOutcome := ⟨.silent, none, []⟩

/-- Settle an entry with a SILENT of this bridge's own: SILENT_OUTCOMES is counted (R123, R128). -/
def State.settleSilent (i : Nat) (x : Exchange) (s : State) : State :=
  (s.countStation .silentOutcomes x.key.addr).settle i x silentOutcome

/-- The D line is IDLE; pending D settings that waited for it take effect (R36, R114). -/
def State.lineIdle (s : State) : State := State.settleDSettings { s with line := .idle }

/-! ### Answers on D -/

/-- The kind of an answer fits the kind of an entry (R120). -/
def kindFits (answer entry : Kind) : Bool :=
  match entry, answer with
  | .ask, .data => true
  | .set, .done => true
  | .ask, .fault => true
  | .set, .fault => true
  | .ask, .wait => true
  | .set, .wait => true
  | .ask, .busy => true
  | .set, .busy => true
  | .ask, .absent => true
  | .set, .absent => true
  | .ask, .denied => true
  | .set, .denied => true
  | .ask, .stale => true
  | .set, .stale => true
  | .ask, .silent => true
  | .set, .silent => true
  | _, _ => false

/-- An answer matches the entry on the line, whose frame went to `addr` (R120). -/
def answerMatches (x : Exchange) (addr : Nat) (f : FrameRecord) : Bool :=
  f.addr == addr && f.tag == x.key.tag && f.object == x.key.object && kindFits f.kind x.key.kind

/-- The outcome an answer becomes; a far SILENT is held as this bridge's own is (R122). -/
def outcomeOf (f : FrameRecord) : HeldOutcome :=
  if f.kind = .silent then silentOutcome else ⟨f.kind, some f.attn, f.payload⟩

/-- A far WAIT or BUSY for ON_LINE entry i: FAR_WAIT within the re-ask limit, else SILENT (R47, R123). -/
def State.farTurnedAway (i : Nat) (x : Exchange) (s : State) : State :=
  if x.reAsks < s.timing.reAskLimit then
    s.setEntry i
      { x with
        phase := .farWait (s.timing.reAskInterval * Config.unitsPerMs), attempts := 0, reAsks := x.reAsks + 1 }
  else s.settleSilent i x

/-- What a matching answer of kind WAIT or BUSY, or of another kind, does to ON_LINE entry i (R121). -/
def State.actOnAnswer (i : Nat) (x : Exchange) (f : FrameRecord) (s : State) : State :=
  if f.kind = .wait ∨ f.kind = .busy then s.farTurnedAway i x else s.settle i x (outcomeOf f)

/-- The Dispatcher takes a matching answer for entry i (R121): a waiting frame is withdrawn and not counted as an
attempt, the ladder level is set, a WITHDRAWN entry is freed, an ON_LINE one acted on, and the line is IDLE. -/
def State.takeMatching (i : Nat) (x : Exchange) (f : FrameRecord) (s : State) : State :=
  let x := if s.d.tx.isWaiting then { x with attempts := x.attempts - 1 } else x
  let s := s.withdrawFrame
  let s := s.setLevel x.key.addr (if f.kind = .absent then 8 else 1)
  let s := if x.phase = .withdrawn then s.freeEntry i else s.actOnAnswer i x f
  s.lineIdle

/-! ### Reply timeouts -/

/-- The attempt limit for station a (R128): the retry limit plus one, or 1 at ladder level 8. -/
def State.attemptLimit (s : State) (a : Nat) : Nat :=
  if (s.stationAt a).level = 8 then 1 else s.timing.retryLimit + 1

/-- What a reply timeout leaves of ON_LINE entry i whose frame went to `addr` (R128): a resend in RUN (R129), back to
QUEUED in PAUSED (R49), or SILENT. -/
def State.afterTimeout (i : Nat) (x : Exchange) (addr : Nat) (s : State) : State :=
  if x.attempts < s.attemptLimit x.key.addr then
    match s.mode with
    | .run => s.sendAttempt i x addr
    | .paused _ => (s.setEntry i { x with phase := .queued }).lineIdle
  else (s.settleSilent i x).lineIdle

/-- A reply timer expiry takes effect on entry i (R127, R141): TIMEOUTS, the ladder, then the entry. -/
def State.timeoutEffect (i : Nat) (x : Exchange) (addr : Nat) (s : State) : State :=
  let s := (s.countStation .timeouts x.key.addr).advanceLevel x.key.addr
  if x.phase = .withdrawn then (s.freeEntry i).lineIdle else s.afterTimeout i x addr

/-- A reply timer that has run out and waited for a frame on D takes effect at that frame's end, unless the frame was a
matching answer (R126). -/
def State.waitedTimeout (s : State) : State :=
  match s.line with
  | .awaiting i addr timer =>
    if timer = 0 then
      match s.entryAt i with
      | some x => s.timeoutEffect i x addr
      | none => s
    else s
  | .sending _ _ => s
  | .idle => s

/-! ### Withdrawal, flush, clear -/

/-- A frame of the entry just withdrawn that still waits in the D transmitter is withdrawn, which frees the entry and
the line (R31, R59, R125). -/
def State.dropWaitingWithdrawn (s : State) : State :=
  match s.line with
  | .sending i _ =>
    if s.d.tx.isWaiting && (s.entryAt i).any (fun x => x.phase == .withdrawn) then
      (s.withdrawFrame.freeEntry i).lineIdle
    else s
  | .awaiting _ _ _ => s
  | .idle => s

/-- What a withdrawal leaves of an entry: ON_LINE becomes WITHDRAWN, WITHDRAWN stays, every other becomes FREE (R57,
R61). -/
def Exchange.withdrawnOrFree (x : Exchange) : Option Exchange :=
  if x.holdsLine then some { x with phase := .withdrawn } else none

/-- The Dispatch Order list without the entries that are FREE now. -/
def State.orderOfTaken (s : State) : List Nat := s.order.filter fun i => (s.entryAt i).isSome

/-- Flush station a (R57, R125). -/
def State.flush (a : Nat) (s : State) : State :=
  let entries := s.entries.map fun e =>
    match e with
    | some x => if x.belongsTo a then x.withdrawnOrFree else some x
    | none => none
  let s := { s with entries := entries, spent := s.spent.filter fun k => k.addr ≠ a }
  let s := { s with order := s.orderOfTaken }
  s.dropWaitingWithdrawn.settleDSettings

/-- The exchange clear (R61) with the Dispatcher's part (R135). The rules differ on a frame that waits in the D transmitter: R38 says
that a clear leaves it as it is, R31, R59 and R125 that the Dispatcher withdraws it. It is withdrawn, and D settings that waited for
the line may take effect: DESIGN CHOICE (log 18). -/
def State.clearExchanges (s : State) : State :=
  let entries := s.entries.map fun e =>
    match e with
    | some x => x.withdrawnOrFree
    | none => none
  let s := { s with entries := entries, spent := [], mode := .run }
  let s := { s with order := s.orderOfTaken }
  s.dropWaitingWithdrawn.settleDSettings

/-- A PAUSE withdraws the frame that waits in the D transmitter: its ON_LINE entry goes back to QUEUED with one attempt
less and the line is IDLE (R133). -/
def State.pauseWithdraw (s : State) : State :=
  match s.line with
  | .sending i _ =>
    match s.entryAt i with
    | some x =>
      if s.d.tx.isWaiting && x.phase == .onLine then
        (s.withdrawFrame.setEntry i { x with phase := .queued, attempts := x.attempts - 1 }).lineIdle
      else s
    | none => s
  | .awaiting _ _ _ => s
  | .idle => s

/-! ### Discovery on the upstream side -/

/-- Discovery makes an UNKNOWN record LOCAL, flushes the station and raises DISCOVERED; a record of any other side is
left as it is (R80). -/
def State.learnLocal (a : Nat) (s : State) : State :=
  if (s.stationAt a).side = .unknown then
    ((s.updateStation a fun r => { r with side := .localSide }).flush a).raise .discovered
  else s

end Sys2Proof.Machine
end

