-- ==== Sys2Proof/Machine/Dispatcher.lean ====
section
/-! DEFINITION. The Dispatcher's steps: SELECTION, D_ANSWER_FRAME, FOREIGN_REQUEST, REPLY_TIMEOUT, PAUSE_TIMER_EXPIRY
(chapter 6). -/

namespace Sys2Proof.Machine

/-! ### Frames on D (R119) -/

/-- The Dispatcher takes an answer: the entry on the line is settled by a match, else the answer is UNEXPECTED, after
which a reply timer that waited for this frame takes effect (R119, R121, R126). -/
def State.dispatchAnswer (f : FrameRecord) (s : State) : State :=
  let tested (i : Nat) (addr : Nat) :=
    match s.entryAt i with
    | some x =>
      if answerMatches x addr f then s.takeMatching i x f else (s.countPort .d .unexpected).waitedTimeout
    | none => s.countPort .d .unexpected
  match s.line with
  | .idle => s.countPort .d .unexpected
  | .sending i addr => tested i addr
  | .awaiting i addr _ => tested i addr

/-- The Dispatcher takes a foreign request: it is UNEXPECTED and not obeyed; a reply timer that waited for this frame
takes effect (R119, R126). -/
def State.dispatchForeign (s : State) : State := (s.countPort .d .unexpected).waitedTimeout

/-- The D slot is emptied as the Dispatcher takes its frame (R26). -/
def State.emptyDSlot (s : State) : State := s.updatePort .d fun q => { q with slot := none }

/-- What the Dispatcher does at once with the frame in the D slot (R26). -/
def State.dTakeNow (s : State) : State :=
  if s.pins.resetN then
    match s.d.slot with
    | some f => if f.kind.isRequest then s.emptyDSlot.dispatchForeign else s.emptyDSlot.dispatchAnswer f
    | none => s
  else s

/-- D_ANSWER_FRAME (R119, R121). With no answer in the D slot there is none to take (log 2). -/
def execDAnswerFrame (s : State) : Host.Outcome State Fault Refusal :=
  .next (if s.d.slot.any (fun f => !f.kind.isRequest) then s.dTakeNow else s)

/-- FOREIGN_REQUEST (R119). With no request in the D slot there is none to take (log 2). -/
def execForeignRequest (s : State) : Host.Outcome State Fault Refusal :=
  .next (if s.d.slot.any (fun f => f.kind.isRequest) then s.dTakeNow else s)

/-! ### Selection -/

/-- The conditions of a selection, less the QUEUED entry itself (R115). -/
def State.maySelect (s : State) : Bool := s.pins.resetN && s.mode == .run && s.line == .idle

/-- Make a selection if its conditions hold: pick an entry and send it (R115, R116, R117). -/
def State.select (s : State) : State :=
  if s.maySelect then
    match s.pick with
    | some i =>
      match s.entryAt i with
      | some x => s.sendAttempt i x (s.downstreamAddr x)
      | none => s
    | none => s
  else s

/-- SELECTION (R115, R116, R117). A frame stored on D before it was taken at once (R26, log 9); while a condition of R115
fails, no selection is made. -/
def execSelection (s : State) : Host.Outcome State Fault Refusal := .next s.dTakeNow.select

/-! ### Timers -/

/-- The reply timer has run out: in COLLECT the expiry waits for the frame's end; in HUNT it takes effect (R126). -/
def State.replyExpiry (s : State) : State :=
  match s.line with
  | .awaiting i addr _ =>
    match s.d.assembler with
    | .collect _ _ _ => { s with line := .awaiting i addr 0 }
    | .hunt =>
      match s.entryAt i with
      | some x => s.timeoutEffect i x addr
      | none => s.lineIdle
  | .sending _ _ => s
  | .idle => s

/-- REPLY_TIMEOUT (R126, R127). A frame that ended before it was taken at once (R26, log 9); with no reply timer running
nothing runs out (log 2). -/
def execReplyTimeout (s : State) : Host.Outcome State Fault Refusal :=
  .next (if s.pins.resetN then s.dTakeNow.replyExpiry else s)

/-- PAUSE_TIMER_EXPIRY (R132). In RUN there is no pause timer and nothing runs out. -/
def execPauseTimerExpiry (s : State) : Host.Outcome State Fault Refusal :=
  .next
    (if s.pins.resetN then
      match s.mode with
      | .paused _ => State.raise .pauseEnded { s with mode := .run }
      | .run => s
    else s)

end Sys2Proof.Machine
end

