-- ==== Sys2Proof/Machine/Answer.lean ====
section
/-! DEFINITION. Taking a frame from the U slot, and the answers on the U port: their forming, match-or-admit, and the
decision for a station (chapter 5). -/

namespace Sys2Proof.Machine

/-! ### Taking a frame (R26, R89) -/

/-- The handler takes frames in IDLE and in WINDOW (R88). -/
def Handler.takes : Handler → Bool
  | .idle => true
  | .deciding _ => false
  | .window _ _ => true
  | .answering _ => false

/-- The frame the handler can take now, if any (R26). -/
def State.takeable (s : State) : Option FrameRecord :=
  if s.pins.resetN && s.handler.takes then s.u.slot else none

/-- The handler takes frame f: the slot is empty and the handler DECIDING with f (R26, R89). A window that was open is
closed by it and the held request dropped (R99). -/
def State.beginTaking (f : FrameRecord) (s : State) : State :=
  { s.updatePort .u (fun q => { q with slot := none }) with handler := .deciding f }

/-- The step `t` takes a frame and decides it. When the handler can take no frame, or the frame in the slot is another
step's to take, the step does not come about and nothing changes (log 2). -/
def State.takeAs (t : Taking) (decision : FrameRecord → State → State) (s : State) : State :=
  match s.takeable with
  | some f => if takingOf s.mgmtAddr f = t then decision f (s.beginTaking f) else s
  | none => s

/-- Silence: the handler drops the frame and is IDLE (R89). -/
def State.silence (s : State) : State := { s with handler := .idle }

/-! ### Forming an answer (R15, R89, R110) -/

/-- The answer to request f (R15). -/
def answerFrame (f : FrameRecord) (kind : Kind) (attn : Attn) (payload : List Byte) : FrameRecord :=
  { addr := f.addr, kind := kind, tag := f.tag, posted := false, attn := attn, object := f.object
    payload := payload }

/-- The handler hands an answer to the U transmitter and is ANSWERING (R89). -/
def State.sendAnswer (mark : AnswerMark) (answer : FrameRecord) (s : State) : State :=
  { s.handOver .u answer with handler := .answering mark }

/-- A bridge-made answer with no payload, carrying the attention summary as it stands now (R15, R110, R151). -/
def State.answer (f : FrameRecord) (kind : Kind) (s : State) : State :=
  s.sendAnswer .plain (answerFrame f kind s.summary [])

/-- The answer that delivers an outcome: its own ATTN, or the summary for SILENT (R15, R110). -/
def State.deliveryFrame (f : FrameRecord) (o : HeldOutcome) (s : State) : FrameRecord :=
  answerFrame f o.kind (o.attn.getD s.summary) o.payload

/-- Deliver READY entry i's outcome: the entry is FREE and DELIVERED counted, then the answer is formed (R50, R103). -/
def State.deliver (f : FrameRecord) (i : Nat) (a : Nat) (o : HeldOutcome) (s : State) : State :=
  let s := (s.freeEntry i).countStation .delivered a
  s.sendAnswer .plain (s.deliveryFrame f o)

/-! ### Match-or-admit (R101) -/

/-- Step 1: the answer to a request whose key live entry i holds (R102, R103). -/
def State.answerRepeat (f : FrameRecord) (i : Nat) (x : Exchange) (s : State) : State :=
  match x.phase with
  | .ready o _ => s.deliver f i x.key.addr o
  | .queued => s.answer f (if x.posted then .done else .wait)
  | .onLine => s.answer f (if x.posted then .done else .wait)
  | .farWait _ => s.answer f (if x.posted then .done else .wait)
  | .withdrawn => s.answer f (if x.posted then .done else .wait)

/-- Step 4's refusal for want of room: BUSY_REFUSALS and CAPACITY come before the answer (R106). -/
def State.refuseBusy (f : FrameRecord) (s : State) : State :=
  ((s.countStation .busyRefusals f.addr).raise .capacity).answer f .busy

/-- Step 5: admission into entry i and its answer (R107). -/
def State.admitAndAnswer (f : FrameRecord) (i : Nat) (s : State) : State :=
  (s.admitInto i f).answer f (if f.kind = .set ∧ f.posted then .done else .wait)

/-- Steps 2 to 5, for a request no live entry holds the key of (R101). -/
def State.judgeNew (f : FrameRecord) (s : State) : State :=
  if f.kind = .set ∧ (s.stationAt f.addr).permit = false then s.answer f .denied
  else if f.kind = .set ∧ f.posted = false ∧ f.key ∈ s.spent then (s.removeSpent f.key).answer f .stale
  else if s.timing.share ≤ s.liveCount f.addr then s.refuseBusy f
  else match s.freeIndex with
    | none => s.refuseBusy f
    | some i => s.admitAndAnswer f i

/-- The match-or-admit sequence (R101). -/
def State.matchOrAdmit (f : FrameRecord) (s : State) : State :=
  match s.liveEntry f.key with
  | some i =>
    match s.entryAt i with
    | some x => s.answerRepeat f i x
    | none => s.judgeNew f
  | none => s.judgeNew f

/-! ### Decisions -/

/-- Open a discovery window for request f (R97). -/
def State.openWindow (f : FrameRecord) (s : State) : State :=
  { s with handler := .window f (s.timing.window * s.u.live.charTime) }

/-- The decision for an UNKNOWN station (R96). -/
def State.decideUnknown (f : FrameRecord) (s : State) : State :=
  if (s.liveEntry f.key).isSome then s.matchOrAdmit f
  else if s.policy = .closed then s.silence
  else if s.aliasHeldByOther f.addr f.addr then (s.raise .aliasConflict).silence
  else s.openWindow f

/-- The decision for an ASK or SET to a station address, by the side of its record (R95, R96). An address 128..255 has
no record and is met with silence: DESIGN CHOICE (log 10). -/
def State.decideStation (f : FrameRecord) (s : State) : State :=
  if isStation f.addr then
    match (s.stationAt f.addr).side with
    | .unknown => s.decideUnknown f
    | .localSide => s.silence
    | .downstream => s.matchOrAdmit f
    | .screened => s.answer f .absent
    | .self => s.silence
  else s.silence

/-- The decision for a NOTE (R94). -/
def State.decideNote (f : FrameRecord) (s : State) : State :=
  if s.forwarding then
    if (s.liveEntry f.key).isSome then s.silence
    else match s.freeIndex with
      | some i => (s.admitInto i f).silence
      | none => (s.raise .capacity).silence
  else s.silence

/-- The address clash check on an answer frame taken in IDLE (R92). -/
def State.clashCheck (f : FrameRecord) (s : State) : State :=
  if isStation f.addr ∧ ((s.stationAt f.addr).side = .downstream ∨ (s.stationAt f.addr).side = .screened) then
    s.countPort .u .unexpected
  else s

/-- The decision for an answer frame, given the handler's state when it was taken: in a window an answer under the held
request's address teaches LOCAL and any other is ignored, else the clash check (R92, R98, R99). -/
def State.decideAnswer (before : Handler) (f : FrameRecord) (s : State) : State :=
  match before with
  | .window g _ => if f.addr = g.addr then (s.learnLocal f.addr).silence else s.silence
  | .idle => (s.clashCheck f).silence
  | .deciding _ => (s.clashCheck f).silence
  | .answering _ => (s.clashCheck f).silence

end Sys2Proof.Machine
end

