-- ==== Sys2Proof/Machine/Management.lean ====
section
/-! DEFINITION. The Management Unit (chapter 9): how it judges a request, what each object reads, and the decision and
the meaning of each management command. -/

namespace Sys2Proof.Machine

/-! ### Answers and judgement (R159, R161) -/

/-- A management answer with the summary as it stands after the request's changes (R159). -/
def State.answerManagement (f : FrameRecord) (kind : Kind) (payload : List Byte) (mark : AnswerMark) (s : State) :
    State :=
  s.sendAnswer mark (answerFrame f kind s.summary payload)

/-- REFUSED with a reason and a field index; nothing else is changed (R161). -/
def State.refuse (f : FrameRecord) (reason : Reason) (index : Nat) (s : State) : State :=
  s.answerManagement f .refused [reason.code, oneByte index] .plain

/-- Every management request but a matching repeat empties the read-and-clear memory first (R178). -/
def State.forgetMemory (s : State) : State := { s with memory := none }

/-- Steps 3 and 5 of R161 for a SET of an object with a fixed length: the length, then the fields in order, then the
effect and DONE. -/
def State.judgeSet (len : Nat) (fields : List Byte → List Bool) (mark : AnswerMark)
    (effect : List Byte → State → State) (f : FrameRecord) (s : State) : State :=
  let s := s.forgetMemory
  if f.payload.length ≠ len then s.refuse f .badLength 0
  else match firstBad (fields f.payload) with
    | some k => s.refuse f .badValue k
    | none => (effect f.payload s).answerManagement f .done [] mark

/-! ### Effects of the SETs -/

/-- Clear each listed factor (R154). -/
def State.acknowledge (codes : List Byte) (s : State) : State :=
  { s with
    factors := s.factors.mapIdx fun k x => if codes.any (fun c => c.toNat == k + 1) then { x with pending := false } else x }

/-- Give all eleven factors their levels (R153). -/
def State.writeLevels (levels : List Byte) (s : State) : State :=
  { s with factors := s.factors.mapIdx fun k x => { x with level := byteAt levels k } }

/-- Write a port's pending copy and set its flag (R34). New D values wait for the DONE that answers them (R36). -/
def State.writePending (p : Port) (payload : List Byte) (s : State) : State :=
  let s := s.updatePort p fun q => { q with pendingCopy := .ofPayload payload, pendingFlag := true }
  match p with
  | .u => s
  | .d => { s with dChangeDue := false }

/-- Write the eight timing values; the step timer starts again only when the step changes (R139, R168). -/
def State.writeTiming (payload : List Byte) (s : State) : State :=
  let t := Timing.ofPayload payload
  { s with
    timing := t
    stepTimer := if t.ladderStep = s.timing.ladderStep then s.stepTimer else t.ladderStep.period }

/-- Write the policy and forwarding (R112, R169). -/
def State.writePolicy (payload : List Byte) (s : State) : State :=
  { s with
    policy := if byteAt payload 0 = 1 then .opened else .closed
    forwarding := byteAt payload 1 == 1 }

/-- Carry out a PAUSE of d steps of 10 ms (R131, R133). -/
def State.pauseFor (d : Nat) (s : State) : State :=
  if d = 0 then { s with mode := .run }
  else State.pauseWithdraw { s with mode := .paused (d * Config.unitsPer10ms) }

/-! ### STATION writes (R75 to R78) -/

/-- Whether each field of a STATION write to record a is allowed, in field order (R75). -/
def State.stationFields (a : Nat) (s : State) (payload : List Byte) : List Bool :=
  let written := byteAt payload 1
  let aliasOk :=
    match Side.ofWriteCode (byteAt payload 0) with
    | some .unknown => true
    | some .localSide => isStation written
    | some .downstream => isStation written && !s.aliasHeldByOther a written
    | some .screened => isStation written && !s.aliasHeldByOther a written
    | some .self => false
    | none => false
  [(Side.ofWriteCode (byteAt payload 0)).isSome, aliasOk, decide (byteAt payload 2 ≤ 3), decide (byteAt payload 3 ≤ 1)]

/-- The alias an accepted write stores (R71, R76). -/
def writtenAlias (a : Nat) (side : Side) (written : Nat) : Nat :=
  if side = .unknown then a else written

/-- Store an accepted write in record a: side, alias, class, permit, and ladder level 1 for DOWNSTREAM (R76). -/
def State.storeStation (a : Nat) (side : Side) (payload : List Byte) (s : State) : State :=
  let s := s.updateStation a fun r =>
    { r with
      side := side, aliasAddr := writtenAlias a side (byteAt payload 1), cls := byteAt payload 2
      permit := byteAt payload 3 == 1 }
  if side = .downstream then s.setLevel a 1 else s

/-- An accepted write is a routing change when it changes side or alias (R77). -/
def StationRecord.routingChange (r : StationRecord) (a : Nat) (side : Side) (payload : List Byte) : Bool :=
  r.side != side || r.aliasAddr != writtenAlias a side (byteAt payload 1)

/-- An accepted write with its flush if it is a routing change (R76, R77, R78). -/
def State.writeStation (a : Nat) (side : Side) (payload : List Byte) (s : State) : State :=
  if (s.stationAt a).routingChange a side payload then (s.storeStation a side payload).flush a
  else s.storeStation a side payload

/-! ### Reads (R162, R164 to R176) -/

/-- STATUS (R165, R180). -/
def State.statusPayload (s : State) : List Byte :=
  let pauseLeft :=
    match s.mode with
    | .run => 0
    | .paused t => roundUp Config.unitsPer10ms t
  [oneByte s.summary.toNat, yesNo (s.mode != .run)] ++ twoBytes pauseLeft ++
    (List.range 6).map (fun c => oneByte (s.entriesInState c)) ++
    [oneByte s.mgmtAddr, s.policy.code, yesNo s.forwarding, oneByte s.pendingCodes.length] ++
    s.pendingCodes.map oneByte

/-- FACTOR_LEVELS (R152, R166). -/
def State.levelsPayload (s : State) : List Byte := s.factors.map fun x => oneByte x.level

/-- U_PORT and D_PORT: live copy, pending flag, pending copy, which reads the same as the live copy while the flag is
clear (R167, R180). -/
def PortState.portPayload (q : PortState) : List Byte :=
  q.live.toPayload ++ [yesNo q.pendingFlag] ++ (if q.pendingFlag then q.pendingCopy else q.live).toPayload

/-- PAUSE (R170). -/
def State.pausePayload (s : State) : List Byte :=
  match s.mode with
  | .run => 0 :: twoBytes 0
  | .paused t => 1 :: twoBytes (roundUp Config.unitsPer10ms t)

/-- STATION s (R86, R174, R180). -/
def StationRecord.toPayload (r : StationRecord) : List Byte :=
  [oneByte r.side.code, oneByte r.aliasAddr, oneByte r.cls, yesNo r.permit, oneByte r.level]

/-- The timer an entry view shows, in ms (R64, R176). -/
def Exchange.viewTimer (x : Exchange) : Nat :=
  match x.phase with
  | .farWait t => roundUp Config.unitsPerMs t
  | .ready _ t => roundUp Config.unitsPerMs t
  | .queued => 0
  | .onLine => 0
  | .withdrawn => 0

/-- The outcome kind an entry view shows (R64). -/
def Exchange.viewOutcome (x : Exchange) : Byte :=
  match x.phase with
  | .ready o _ => o.kind.code
  | .farWait _ => 0
  | .queued => 0
  | .onLine => 0
  | .withdrawn => 0

/-- EXCHANGE i; for a FREE entry every byte is 0 (R64, R176, R180). -/
def State.exchangePayload (s : State) (i : Nat) : List Byte :=
  match s.entryAt i with
  | none => List.replicate 15 0
  | some x =>
    [oneByte (entryStateCode (some x)), oneByte x.key.addr, x.key.kind.code, hiByte x.key.object,
      loByte x.key.object, oneByte x.key.tag.toNat, yesNo x.posted, yesNo x.discovery, oneByte x.cls,
      oneByte (s.placeOf i), oneByte x.attempts, oneByte x.reAsks] ++ twoBytes x.viewTimer ++ [x.viewOutcome]

/-- PORT_COUNTERS: the U port's and then the D port's (R175). -/
def State.portCountersPayload (s : State) : List Byte := s.u.counters.toPayload ++ s.d.counters.toPayload

/-- What an ASK of an object that answers to it reads (R160). -/
def State.readObject (o : Object) (s : State) : List Byte :=
  match o with
  | .ident => Config.identity
  | .status => s.statusPayload
  | .factorLevels => s.levelsPayload
  | .uPort => s.u.portPayload
  | .dPort => s.d.portPayload
  | .timing => s.timing.toPayload
  | .policy => [s.policy.code, yesNo s.forwarding]
  | .pause => s.pausePayload
  | .station a => (s.stationAt a).toPayload
  | .counters a => (s.stationAt a).counters.toPayload
  | .countersReadClear a => (s.stationAt a).counters.toPayload
  | .portCounters => s.portCountersPayload
  | .portCountersReadClear => s.portCountersPayload
  | .exchange i => s.exchangePayload i
  | .factorAck => []
  | .flush => []
  | .clear => []
  | .restart => []
  | .unknown => []

/-! ### The read-and-clear memory (R178) -/

/-- The stored payload when the request is a matching repeat (R178). -/
def State.storedFor (f : FrameRecord) (s : State) : Option (List Byte) :=
  match s.memory with
  | some m => if m.object = f.object ∧ m.tag = f.tag then some m.payload else none
  | none => none

/-- A read-and-clear: a matching repeat is answered from the memory and clears nothing; any other takes the values,
clears the counters, answers and is stored (R175, R178). -/
def State.readAndClear (clear : State → State) (payload : List Byte) (f : FrameRecord) (s : State) : State :=
  match s.storedFor f with
  | some stored => s.answerManagement f .data stored .plain
  | none =>
    let s := { clear s.forgetMemory with memory := some ⟨f.object, f.tag, payload⟩ }
    s.answerManagement f .data payload .plain

/-- Set record a's seven counters to 0 (R85). -/
def State.clearStationCounters (a : Nat) (s : State) : State :=
  s.updateStation a fun r => { r with counters := .zero }

/-- Set both ports' counters to 0 (R33). -/
def State.clearPortCounters (s : State) : State :=
  (s.updatePort .u fun q => { q with counters := .zero }).updatePort .d fun q => { q with counters := .zero }

/-! ### The decision of each command -/

/-- FACTOR_ACK: any length; the codes must all be 1..11 (R154, R155, R166). -/
def State.decideFactorAck (f : FrameRecord) (s : State) : State :=
  s.judgeSet f.payload.length (fun codes => codes.map fun c => decide (1 ≤ c.toNat ∧ c.toNat ≤ 11)) .plain
    State.acknowledge f

/-- FACTOR_LEVELS: eleven levels 0..3 (R153, R166). -/
def State.decideFactorLevels (f : FrameRecord) (s : State) : State :=
  s.judgeSet 11 (fun levels => levels.map fun c => decide (c.toNat ≤ 3)) .plain State.writeLevels f

/-- U_PORT (R35, R167). -/
def State.decideUPort (f : FrameRecord) (s : State) : State :=
  s.judgeSet 6 settingsFields .uSettings (State.writePending .u) f

/-- D_PORT (R36, R167). -/
def State.decideDPort (f : FrameRecord) (s : State) : State :=
  s.judgeSet 6 settingsFields .dSettings (State.writePending .d) f

/-- TIMING (R168). -/
def State.decideTiming (f : FrameRecord) (s : State) : State :=
  s.judgeSet 8 timingFields .plain State.writeTiming f

/-- POLICY (R169). -/
def State.decidePolicy (f : FrameRecord) (s : State) : State :=
  s.judgeSet 2 policyFields .plain State.writePolicy f

/-- PAUSE: every duration is allowed (R170). -/
def State.decidePause (f : FrameRecord) (s : State) : State :=
  s.judgeSet 2 (fun _ => []) .plain (fun payload => State.pauseFor (wordAt payload 0)) f

/-- FLUSH (R171). -/
def State.decideFlush (f : FrameRecord) (s : State) : State :=
  s.judgeSet 1 (fun payload => [isStation (byteAt payload 0)]) .plain (fun payload => State.flush (byteAt payload 0)) f

/-- CLEAR (R172). -/
def State.decideClear (f : FrameRecord) (s : State) : State :=
  s.judgeSet 0 (fun _ => []) .plain (fun _ => State.clearExchanges) f

/-- RESTART: only its DONE is marked (R173). -/
def State.decideRestart (f : FrameRecord) (s : State) : State :=
  s.judgeSet 0 (fun _ => []) .restart (fun _ s => s) f

/-- STATION: length, then SELF_RECORD, then the fields (R75, R161, R174). -/
def State.decideStationWrite (f : FrameRecord) (s : State) : State :=
  let a := f.object.toNat - 0x0100
  if f.payload.length = 4 ∧ a = s.mgmtAddr then s.forgetMemory.refuse f .selfRecord 0
  else
    s.judgeSet 4 (s.stationFields a) .plain
      (fun payload => State.writeStation a ((Side.ofWriteCode (byteAt payload 0)).getD .unknown) payload) f

/-- COUNTERS s read-and-clear (R85, R175). -/
def State.decideCountersReadClear (f : FrameRecord) (s : State) : State :=
  let a := f.object.toNat - 0x0300
  s.readAndClear (State.clearStationCounters a) (s.stationAt a).counters.toPayload f

/-- PORT_COUNTERS read-and-clear (R33, R175). -/
def State.decidePortCountersReadClear (f : FrameRecord) (s : State) : State :=
  s.readAndClear State.clearPortCounters s.portCountersPayload f

/-- Any other management request: UNKNOWN_OBJECT, WRONG_KIND, or the DATA of a read (R161, R162). -/
def State.decideManagementRequest (f : FrameRecord) (s : State) : State :=
  let s := s.forgetMemory
  let o := Object.ofNumber f.object.toNat
  if o = .unknown then s.refuse f .unknownObject 0
  else if f.kind = .ask ∧ o.answersAsk then s.answerManagement f .data (s.readObject o) .plain
  else s.refuse f .wrongKind 0

/-! ### The meanings -/

/-- FACTOR_ACK (R154). -/
def execFactorAck (s : State) : Host.Outcome State Fault Refusal := .next (s.takeAs .factorAck State.decideFactorAck)

/-- FACTOR_LEVELS (R153). -/
def execFactorLevels (s : State) : Host.Outcome State Fault Refusal :=
  .next (s.takeAs .factorLevels State.decideFactorLevels)

/-- U_PORT (R167). -/
def execUPort (s : State) : Host.Outcome State Fault Refusal := .next (s.takeAs .uPort State.decideUPort)

/-- D_PORT (R167). -/
def execDPort (s : State) : Host.Outcome State Fault Refusal := .next (s.takeAs .dPort State.decideDPort)

/-- TIMING (R168). -/
def execTiming (s : State) : Host.Outcome State Fault Refusal := .next (s.takeAs .timing State.decideTiming)

/-- POLICY (R169). -/
def execPolicy (s : State) : Host.Outcome State Fault Refusal := .next (s.takeAs .policy State.decidePolicy)

/-- PAUSE (R131, R170). -/
def execPause (s : State) : Host.Outcome State Fault Refusal := .next (s.takeAs .pause State.decidePause)

/-- FLUSH (R57, R171). -/
def execFlush (s : State) : Host.Outcome State Fault Refusal := .next (s.takeAs .flush State.decideFlush)

/-- CLEAR (R61, R172). -/
def execClear (s : State) : Host.Outcome State Fault Refusal := .next (s.takeAs .clear State.decideClear)

/-- RESTART (R173). -/
def execRestart (s : State) : Host.Outcome State Fault Refusal := .next (s.takeAs .restart State.decideRestart)

/-- STATION (R75, R174). -/
def execStation (s : State) : Host.Outcome State Fault Refusal := .next (s.takeAs .station State.decideStationWrite)

/-- COUNTERS_READ_CLEAR (R85). -/
def execCountersReadClear (s : State) : Host.Outcome State Fault Refusal :=
  .next (s.takeAs .countersReadClear State.decideCountersReadClear)

/-- PORT_COUNTERS_READ_CLEAR (R33). -/
def execPortCountersReadClear (s : State) : Host.Outcome State Fault Refusal :=
  .next (s.takeAs .portCountersReadClear State.decidePortCountersReadClear)

/-- MANAGEMENT_REQUEST (R178). -/
def execManagementRequest (s : State) : Host.Outcome State Fault Refusal :=
  .next (s.takeAs .managementRequest State.decideManagementRequest)

end Sys2Proof.Machine
end

