-- ==== Sys2Proof/Machine/Handler.lean ====
section
/-! DEFINITION. The Request Handler's steps: STATION_REQUEST, NOTE, U_ANSWER_FRAME, DISCOVERY_WINDOW_EXPIRY (chapter 5). -/

namespace Sys2Proof.Machine

/-- STATION_REQUEST (R95, R96, R101). -/
def execStationRequest (s : State) : Host.Outcome State Fault Refusal :=
  .next (s.takeAs .stationRequest State.decideStation)

/-- NOTE (R94). -/
def execNote (s : State) : Host.Outcome State Fault Refusal := .next (s.takeAs .note State.decideNote)

/-- U_ANSWER_FRAME (R92, R98, R99). -/
def execUAnswerFrame (s : State) : Host.Outcome State Fault Refusal :=
  .next (s.takeAs .uAnswerFrame (State.decideAnswer s.handler))

/-- The decision that goes with each way of taking a frame, given the handler's state before. -/
def State.decide (t : Taking) (before : Handler) (f : FrameRecord) (s : State) : State :=
  match t with
  | .stationRequest => s.decideStation f
  | .note => s.decideNote f
  | .uAnswerFrame => s.decideAnswer before f
  | .factorAck => s.decideFactorAck f
  | .factorLevels => s.decideFactorLevels f
  | .uPort => s.decideUPort f
  | .dPort => s.decideDPort f
  | .timing => s.decideTiming f
  | .policy => s.decidePolicy f
  | .pause => s.decidePause f
  | .flush => s.decideFlush f
  | .clear => s.decideClear f
  | .restart => s.decideRestart f
  | .station => s.decideStationWrite f
  | .countersReadClear => s.decideCountersReadClear f
  | .portCountersReadClear => s.decidePortCountersReadClear f
  | .managementRequest => s.decideManagementRequest f

/-- What the handler does at once with a frame it can take (R26): the step that the frame is for. Nothing when it can
take none. -/
def State.uTakeNow (s : State) : State :=
  match s.takeable with
  | some f => (s.beginTaking f).decide (takingOf s.mgmtAddr f) s.handler f
  | none => s

/-- The window timer has run out: in COLLECT the expiry waits for the frame's end; in HUNT the window closes and the
held request goes to match-or-admit (R100). -/
def State.windowExpiry (s : State) : State :=
  match s.handler with
  | .window f _ =>
    match s.u.assembler with
    | .collect _ _ _ => { s with handler := .window f 0 }
    | .hunt => State.matchOrAdmit f { s with handler := .deciding f }
  | .idle => s
  | .deciding _ => s
  | .answering _ => s

/-- DISCOVERY_WINDOW_EXPIRY (R100). A frame that ended before it is taken at once (R26, log 9); that closes the window and the
expiry is gone, so it does not run on a window the frame may open. With no window open nothing runs out (log 2). -/
def execDiscoveryWindowExpiry (s : State) : Host.Outcome State Fault Refusal :=
  .next
    (if s.pins.resetN then
      match s.takeable with
      | some _ => s.uTakeNow
      | none => s.windowExpiry
    else s)

end Sys2Proof.Machine
end

