-- ==== Sys2Proof/Machine/Ports.lean ====
section
/-! DEFINITION. The steps of the two ports and of reset: RESET_N_LOW, RESET_END, CHARACTER_RECEIVED, GAP_LIMIT_EXPIRY,
TRANSMIT_START, FRAME_SENT, DEAF_PERIOD_END (chapter 2). -/

namespace Sys2Proof.Machine

/-! ### Reset (R37, R38) -/

/-- The transmitter stops: driver enable low, data pin at mark; the receiver takes nothing more of a character (R37), which is
then missed: DESIGN CHOICE (log 11). -/
def PortState.hold (q : PortState) : PortState := { q with tx := .idle, receiver := q.receiver.abandon }

/-- RESET_N_LOW (R37). The ports are held; everything else stays until RESET_END sets it: DESIGN CHOICE (log 11). -/
def execResetNLow (s : State) : Host.Outcome State Fault Refusal :=
  .next { s with pins := { s.pins with resetN := false }, u := s.u.hold, d := s.d.hold }

/-- A port in its reset condition (R37). The line is not the part's to reset, and a character under way there is missed: DESIGN CHOICE
(log 11). -/
def PortState.restarted (straps : Straps) (q : PortState) : PortState :=
  { PortState.afterReset straps with receiver := q.receiver.abandon }

/-- Every block in its reset condition (R37, R63, R87, R113, R135, R147, R157). -/
def State.restarted (straps : Straps) (s : State) : State :=
  { State.afterReset straps with u := s.u.restarted straps, d := s.d.restarted straps, pending := s.pending }

/-- RESET_END: the straps are sampled and every block takes its reset condition (R37). -/
def execResetEnd (straps : Straps) (s : State) : Host.Outcome State Fault Refusal := .next (s.restarted straps)

/-- The full restart: the reset condition with the straps sampled again, and both receivers deaf for 1 ms (R38, R173). -/
def State.fullRestart (straps : Straps) (s : State) : State :=
  { s.restarted straps with restartDeaf := some Config.unitsPerMs }

/-! ### The owner's reports (R27) -/

/-- What a port's owner does at once with a frame in its slot (R26). -/
def State.takeStored (p : Port) (s : State) : State :=
  match p with
  | .u => s.uTakeNow
  | .d => s.dTakeNow

/-- The owner is told of a frame that was discarded or dropped: an open discovery window closes with its request
unanswered (R99), and a reply timer that waited for the frame takes effect (R126). -/
def State.reportLost (p : Port) (s : State) : State :=
  match p with
  | .u =>
    match s.handler with
    | .window _ _ => s.silence
    | .idle => s
    | .deciding _ => s
    | .answering _ => s
  | .d => s.waitedTimeout

/-- A frame of a port ends lost, counted once under c: back to HUNT, counted, reported (R23, R24, R25, R27). -/
def State.loseFrame (p : Port) (c : PortCounter) (s : State) : State :=
  ((s.updatePort p fun q => { q with assembler := .hunt }).countPort p c).reportLost p

/-- A well-formed frame ends: stored in an empty slot, or dropped as OVERRUN (R26). -/
def State.storeFrame (p : Port) (f : FrameRecord) (s : State) : State :=
  if (s.port p).slot.isSome then s.loseFrame p .overrun
  else (s.updatePort p fun q => { q with assembler := .hunt, slot := some f }).countPort p .framesIn

/-- A frame ends by reaching its length (R22, R25). -/
def State.endFrame (p : Port) (chars : List Byte) (spoiled : Option CharError) (s : State) : State :=
  match judgeFrame chars spoiled with
  | .discard c => s.loseFrame p c
  | .wellFormed f => s.storeFrame p f

/-! ### The assembler (R21 to R24) -/

/-- The gap timer's time at its start (R24). -/
def Settings.gapTime (st : Settings) : Nat := st.gapLimit * st.charTime

/-- A character in HUNT: a clean LEAD starts a frame, any other is STRAY (R21). -/
def State.huntCharacter (p : Port) (ch : RxChar) (s : State) : State :=
  if ch.value = Config.lead ∧ ch.error = none then
    s.updatePort p fun q => { q with assembler := .collect [ch.value] none q.live.gapTime }
  else s.countPort p .stray

/-- A character in COLLECT: appended, the first error kept, the gap timer started again; the seventh character is LEN
(R22, R23). -/
def State.collectCharacter (p : Port) (ch : RxChar) (chars : List Byte) (spoiled : Option CharError) (s : State) :
    State :=
  let chars := chars ++ [ch.value]
  let spoiled := spoiled.or ch.error
  if chars.length = 7 ∧ Config.maxPayload < collectedLen chars then s.loseFrame p .oversize
  else if 7 ≤ chars.length ∧ frameLength (collectedLen chars) ≤ chars.length then s.endFrame p chars spoiled
  else s.updatePort p fun q => { q with assembler := .collect chars spoiled q.live.gapTime }

/-- The receiver delivers a character to the assembler; the turnaround is measured from its end (R19, R28). -/
def State.deliverCharacter (p : Port) (ch : RxChar) (s : State) : State :=
  let s := s.updatePort p fun q => { q with receiver := .looking, sinceLast := some 0 }
  match (s.port p).assembler with
  | .hunt => s.huntCharacter p ch
  | .collect chars spoiled _ => s.collectCharacter p ch chars spoiled

/-- A character starts on the line: the receiver is partway through it, or, if it is deaf, misses it (R19, R30). -/
def State.startEdge (p : Port) (s : State) : State :=
  s.updatePort p fun q => { q with receiver := if s.deaf p then .missed else .reading }

/-- A character on the line ends: read at the live settings and delivered, a false start leaving nothing (R19); lost whole if the
receiver is deaf now or missed its start bit (R30). -/
def State.endCharacter (p : Port) (levels : List Bool) (s : State) : State :=
  let lost := s.updatePort p fun q => { q with receiver := .looking }
  if s.deaf p || (s.port p).receiver == .missed then lost
  else match readCharacter (s.port p).live levels with
    | none => lost
    | some ch => s.deliverCharacter p ch

/-- What a line event does at a port (R19, R30). -/
def State.lineEvent (p : Port) (e : LineEvent) (s : State) : State :=
  match e with
  | .startEdge => s.startEdge p
  | .samples levels => s.endCharacter p levels

/-- CHARACTER_RECEIVED (R19 to R26, R30). A frame stored before it was taken at once (R26, log 9). -/
def execCharacterReceived (p : Port) (e : LineEvent) (s : State) : Host.Outcome State Fault Refusal :=
  .next ((s.takeStored p).lineEvent p e)

/-- The gap limit passes: in COLLECT, with no start bit since the last character, the frame ends TRUNCATED (R24). That a start
that may yet prove false holds it off is a DESIGN CHOICE (log 17). -/
def State.gapExpiry (p : Port) (s : State) : State :=
  match (s.port p).assembler, (s.port p).receiver with
  | .collect _ _ _, .looking => s.loseFrame p .truncated
  | .collect _ _ _, .missed => s.loseFrame p .truncated
  | .collect _ _ _, .reading => s
  | .hunt, _ => s

/-- GAP_LIMIT_EXPIRY (R24). In HUNT, or once a start bit has come, no gap timer runs (log 2). -/
def execGapLimitExpiry (p : Port) (s : State) : Host.Outcome State Fault Refusal :=
  let s := s.takeStored p
  .next (if s.deaf p then s else s.gapExpiry p)

/-! ### The transmitter (R28 to R31) -/

/-- Conditions 1 and 2 of R28: a frame waits, none is being sent, the assembler is in HUNT, and the receiver is not partway
through a character. -/
def PortState.mayStart (q : PortState) : Bool :=
  q.tx.isWaiting && q.assembler == .hunt && q.receiver != .reading

/-- Condition 3 of R28: the turnaround delay has passed since the last character heard or stop bit sent. -/
def PortState.turnaroundPassed (q : PortState) : Bool :=
  match q.sinceLast with
  | some t => decide (q.live.turnaround * q.live.charTime ≤ t)
  | none => true

/-- The waiting frame starts: the driver enable rises for as long as the frame takes (R29). -/
def PortState.startSending (q : PortState) : PortState :=
  match q.tx with
  | .waiting f => { q with tx := .sending f (frameTime q.live f) }
  | .idle => q
  | .sending _ _ => q

/-- TRANSMIT_START (R28, R29). The command says that the turnaround has passed (log 1); the idle step gives it no sooner. A
frame stored before it was taken at once (R26, log 9). -/
def execTransmitStart (p : Port) (s : State) : Host.Outcome State Fault Refusal :=
  let s := s.takeStored p
  .next (if s.pins.resetN && (s.port p).mayStart then s.updatePort p PortState.startSending else s)

/-- The frame has gone: the driver enable falls, the receiver listens in HUNT, FRAMES_OUT is counted (R29, R30). -/
def State.endSending (p : Port) (s : State) : State :=
  (s.updatePort p fun q =>
    { q with tx := .idle, receiver := q.receiver.abandon, assembler := .hunt, sinceLast := some 0 }).countPort p .framesOut

/-- The handler hears that its answer has gone: IDLE, with what the answer's mark brings (R35, R36, R90, R173). -/
def State.answerGone (straps : Straps) (s : State) : State :=
  match s.handler with
  | .answering .plain => s.silence
  | .answering .uSettings => (s.updatePort .u PortState.applyPending).silence
  | .answering .dSettings => (State.settleDSettings { s with dChangeDue := true }).silence
  | .answering .restart => s.fullRestart straps
  | .idle => s
  | .deciding _ => s
  | .window _ _ => s

/-- The Dispatcher hears that its request has gone (R118): an ASK or SET is awaited from now on, a NOTE entry is FREE and the
line IDLE. -/
def State.requestGone (s : State) : State :=
  match s.line with
  | .sending i addr =>
    match s.entryAt i with
    | some x =>
      if x.key.kind = .note then (s.freeEntry i).lineIdle
      else { s with line := .awaiting i addr (s.timing.replyTimeout * Config.unitsPerMs) }
    | none => s.lineIdle
  | .awaiting _ _ _ => s
  | .idle => s

/-- The owner hears that its frame has gone (R29). -/
def State.reportSent (p : Port) (straps : Straps) (s : State) : State :=
  match p with
  | .u => s.answerGone straps
  | .d => s.requestGone

/-- FRAME_SENT (R29): with `straps` the strap levels at that moment, sampled only at a full restart (log 7). With no frame on
the line none ends (log 2). -/
def execFrameSent (p : Port) (straps : Straps) (s : State) : Host.Outcome State Fault Refusal :=
  .next (if s.pins.resetN && s.driverEnable p then (s.endSending p).reportSent p straps else s)

/-- DEAF_PERIOD_END (R38): both receivers begin listening in HUNT. -/
def execDeafPeriodEnd (s : State) : Host.Outcome State Fault Refusal :=
  .next (if s.pins.resetN && s.restartDeaf.isSome then { s with restartDeaf := none } else s)

end Sys2Proof.Machine
end

