-- ==== Sys2Proof/Machine/Timers.lean ====
section
/-! DEFINITION. The timers of the tables: RE_ASK_EXPIRY, COLLECTION_EXPIRY, LADDER_STEP (chapters 3 and 7). -/

namespace Sys2Proof.Machine

/-- A FAR_WAIT entry's re-ask timer has run out: QUEUED at its old place (R48). -/
def State.reAskExpiry (i : Nat) (s : State) : State :=
  match s.entryAt i with
  | some x =>
    match x.phase with
    | .farWait _ => s.setEntry i { x with phase := .queued }
    | .queued => s
    | .onLine => s
    | .ready _ _ => s
    | .withdrawn => s
  | none => s

/-- RE_ASK_EXPIRY (R48). An entry that is not in FAR_WAIT has no re-ask timer and nothing runs out (log 2). -/
def execReAskExpiry (i : Nat) (s : State) : Host.Outcome State Fault Refusal :=
  .next (if s.pins.resetN then s.reAskExpiry i else s)

/-- The outcome of a READY entry is thrown away: FREE, DISCARDS, DISCARDED, and the key of a non-posted SET with outcome
DONE enters the Spent List (R51, R55). -/
def State.discardOutcome (i : Nat) (x : Exchange) (o : HeldOutcome) (s : State) : State :=
  let s := ((s.freeEntry i).countStation .discards x.key.addr).raise .discarded
  if x.key.kind = .set ∧ x.posted = false ∧ o.kind = .done then s.addSpent x.key else s

/-- A READY entry's collection timer has run out (R51). -/
def State.collectionExpiry (i : Nat) (s : State) : State :=
  match s.entryAt i with
  | some x =>
    match x.phase with
    | .ready o _ => s.discardOutcome i x o
    | .queued => s
    | .onLine => s
    | .farWait _ => s
    | .withdrawn => s
  | none => s

/-- COLLECTION_EXPIRY (R51). An entry that is not READY has no collection timer and nothing runs out (R52, log 2). -/
def execCollectionExpiry (i : Nat) (s : State) : Host.Outcome State Fault Refusal :=
  .next (if s.pins.resetN then s.collectionExpiry i else s)

/-- Record a's share of a step expiry: a DOWNSTREAM record below level 8 advances by one (R138). -/
def State.stepStation (a : Nat) (s : State) : State :=
  if (s.stationAt a).side = .downstream ∧ (s.stationAt a).level < 8 then s.advanceLevel a else s

/-- A step expiry: every record's share, and the timer starts again for the next period (R138). -/
def State.ladderExpiry (s : State) : State :=
  let s := (List.range Config.stationCount).foldl (fun t k => t.stepStation (k + 1)) s
  { s with stepTimer := s.timing.ladderStep.period }

/-- LADDER_STEP (R138). With the step OFF no step timer runs and nothing runs out (R139, log 2). -/
def execLadderStep (s : State) : Host.Outcome State Fault Refusal :=
  .next (if s.pins.resetN && s.stepTimer.isSome then s.ladderExpiry else s)

end Sys2Proof.Machine
end

