-- ==== Sys2Proof/Machine/Dispatch.lean ====
section
/-! DEFINITION. The one match over the commands: each arm one call of that command's meaning. -/

namespace Sys2Proof.Machine

def exec (i : Instr) (s : State) : Host.Outcome State Fault Refusal :=
  match i with
  | .resetNLow => Sys2Proof.Machine.execResetNLow s
  | .resetEnd straps => Sys2Proof.Machine.execResetEnd straps s
  | .characterReceived p e => Sys2Proof.Machine.execCharacterReceived p e s
  | .gapLimitExpiry p => Sys2Proof.Machine.execGapLimitExpiry p s
  | .transmitStart p => Sys2Proof.Machine.execTransmitStart p s
  | .frameSent p straps => Sys2Proof.Machine.execFrameSent p straps s
  | .deafPeriodEnd => Sys2Proof.Machine.execDeafPeriodEnd s
  | .stationRequest => Sys2Proof.Machine.execStationRequest s
  | .discoveryWindowExpiry => Sys2Proof.Machine.execDiscoveryWindowExpiry s
  | .note => Sys2Proof.Machine.execNote s
  | .uAnswerFrame => Sys2Proof.Machine.execUAnswerFrame s
  | .selection => Sys2Proof.Machine.execSelection s
  | .dAnswerFrame => Sys2Proof.Machine.execDAnswerFrame s
  | .foreignRequest => Sys2Proof.Machine.execForeignRequest s
  | .replyTimeout => Sys2Proof.Machine.execReplyTimeout s
  | .reAskExpiry entry => Sys2Proof.Machine.execReAskExpiry entry s
  | .collectionExpiry entry => Sys2Proof.Machine.execCollectionExpiry entry s
  | .pauseTimerExpiry => Sys2Proof.Machine.execPauseTimerExpiry s
  | .ladderStep => Sys2Proof.Machine.execLadderStep s
  | .factorAck => Sys2Proof.Machine.execFactorAck s
  | .factorLevels => Sys2Proof.Machine.execFactorLevels s
  | .uPort => Sys2Proof.Machine.execUPort s
  | .dPort => Sys2Proof.Machine.execDPort s
  | .timing => Sys2Proof.Machine.execTiming s
  | .policy => Sys2Proof.Machine.execPolicy s
  | .pause => Sys2Proof.Machine.execPause s
  | .flush => Sys2Proof.Machine.execFlush s
  | .clear => Sys2Proof.Machine.execClear s
  | .restart => Sys2Proof.Machine.execRestart s
  | .station => Sys2Proof.Machine.execStation s
  | .countersReadClear => Sys2Proof.Machine.execCountersReadClear s
  | .portCountersReadClear => Sys2Proof.Machine.execPortCountersReadClear s
  | .managementRequest => Sys2Proof.Machine.execManagementRequest s

end Sys2Proof.Machine
end

