-- ==== Sys2Proof/Machine/Idle.lean ====
section
/-! DEFINITION. What the block does when no command waits: its own next step that is due, or else one unit of time
passes (log 3, log 4, log 5). -/

namespace Sys2Proof.Machine

/-! ### The passing of time -/

/-- A port's timers after one unit of time (R24, R28, R29). -/
def PortState.tick (q : PortState) : PortState :=
  { q with
    assembler :=
      match q.assembler with
      | .hunt => .hunt
      | .collect chars spoiled gap => .collect chars spoiled (gap - 1)
    tx :=
      match q.tx with
      | .idle => .idle
      | .waiting f => .waiting f
      | .sending f left => .sending f (left - 1)
    sinceLast := q.sinceLast.map (· + 1) }

/-- An entry's timer after one unit of time (R48, R51). -/
def Exchange.tick (x : Exchange) : Exchange :=
  { x with
    phase :=
      match x.phase with
      | .farWait t => .farWait (t - 1)
      | .ready o t => .ready o (t - 1)
      | .queued => .queued
      | .onLine => .onLine
      | .withdrawn => .withdrawn }

/-- The window timer after one unit of time (R97). -/
def Handler.tick : Handler → Handler
  | .window f t => .window f (t - 1)
  | .idle => .idle
  | .deciding f => .deciding f
  | .answering m => .answering m

/-- The pause timer after one unit of time (R131). -/
def Mode.tick : Mode → Mode
  | .run => .run
  | .paused t => .paused (t - 1)

/-- The reply timer after one unit of time (R118). -/
def Line.tick : Line → Line
  | .idle => .idle
  | .sending i a => .sending i a
  | .awaiting i a t => .awaiting i a (t - 1)

/-- One unit of time passes: every running timer has one unit less. -/
def State.tick (s : State) : State :=
  { s with
    u := s.u.tick
    d := s.d.tick
    restartDeaf := s.restartDeaf.map (· - 1)
    entries := s.entries.map fun e => e.map Exchange.tick
    stepTimer := s.stepTimer.map (· - 1)
    handler := s.handler.tick
    mode := s.mode.tick
    line := s.line.tick }

/-! ### The step that is due -/

/-- The command that takes a frame in a given way. -/
def Taking.command : Taking → Instr
  | .stationRequest => .stationRequest
  | .note => .note
  | .uAnswerFrame => .uAnswerFrame
  | .factorAck => .factorAck
  | .factorLevels => .factorLevels
  | .uPort => .uPort
  | .dPort => .dPort
  | .timing => .timing
  | .policy => .policy
  | .pause => .pause
  | .flush => .flush
  | .clear => .clear
  | .restart => .restart
  | .station => .station
  | .countersReadClear => .countersReadClear
  | .portCountersReadClear => .portCountersReadClear
  | .managementRequest => .managementRequest

/-- The take that is due at each slot (R26). -/
def State.dueTakes (s : State) : List Instr :=
  (match s.d.slot with
    | some f => [if f.kind.isRequest then Instr.foreignRequest else Instr.dAnswerFrame]
    | none => []) ++
  (match s.takeable with
    | some f => [(takingOf s.mgmtAddr f).command]
    | none => [])

/-- A frame whose last stop bit has ended, and a gap timer that has run out with no start bit since (R24, R29, log 14). A false
start in COLLECT neither stops nor restarts the gap timer, which runs on through it, and an expiry that falls into it is due once
the start has proved false: DESIGN CHOICE (log 17). -/
def State.duePort (s : State) (p : Port) : List Instr :=
  (match (s.port p).tx with
    | .sending _ left => if left = 0 then [Instr.frameSent p s.pins.straps] else []
    | .waiting _ => []
    | .idle => []) ++
  (match (s.port p).assembler, (s.port p).receiver with
    | .collect _ _ gap, .looking => if gap = 0 then [Instr.gapLimitExpiry p] else []
    | .collect _ _ gap, .missed => if gap = 0 then [Instr.gapLimitExpiry p] else []
    | .collect _ _ _, .reading => []
    | .hunt, _ => [])

/-- The window and reply timers that have run out with their assembler in HUNT (R100, R126), and the pause, deafness and step
timers that have run out. -/
def State.dueTimers (s : State) : List Instr :=
  (match s.handler with
    | .window _ t => if t = 0 ∧ s.u.assembler = .hunt then [Instr.discoveryWindowExpiry] else []
    | .idle => []
    | .deciding _ => []
    | .answering _ => []) ++
  (match s.line with
    | .awaiting _ _ t => if t = 0 ∧ s.d.assembler = .hunt then [Instr.replyTimeout] else []
    | .sending _ _ => []
    | .idle => []) ++
  (match s.mode with
    | .paused t => if t = 0 then [Instr.pauseTimerExpiry] else []
    | .run => []) ++
  (if s.restartDeaf = some 0 then [Instr.deafPeriodEnd] else []) ++
  (if s.stepTimer = some 0 then [Instr.ladderStep] else [])

/-- The expiries of an entry whose timer has run out (R48, R51). -/
def dueEntry (i : Nat) (e : Option Exchange) : List Instr :=
  match e with
  | some x =>
    match x.phase with
    | .farWait t => if t = 0 then [.reAskExpiry i] else []
    | .ready _ t => if t = 0 then [.collectionExpiry i] else []
    | .queued => []
    | .onLine => []
    | .withdrawn => []
  | none => []

/-- The expiries of all entries, lowest number first. -/
def State.dueEntries (s : State) : List Instr :=
  (List.range Config.entryCount).flatMap fun i => dueEntry i (s.entryAt i)

/-- A selection whose conditions hold (R115), and the waiting frames that may start with the turnaround passed (R28). -/
def State.dueSending (s : State) : List Instr :=
  (if s.maySelect && s.pick.isSome then [Instr.selection] else []) ++
  (if s.u.mayStart && s.u.turnaroundPassed then [Instr.transmitStart .u] else []) ++
  (if s.d.mayStart && s.d.turnaroundPassed then [Instr.transmitStart .d] else [])

/-- The block's own steps that are due, in the order the idle step takes them. DESIGN CHOICE of the order (log 4). -/
def State.due (s : State) : List Instr :=
  if s.pins.resetN then
    s.dueTakes ++ s.duePort .u ++ s.duePort .d ++ s.dueTimers ++ s.dueEntries ++ s.dueSending
  else []

/-- What the part does as time passes while RESET_N is low: nothing (R37, log 11). -/
def State.pass (s : State) : State := if s.pins.resetN then s.tick else s

end Sys2Proof.Machine
end

