-- ==== Sys2Proof/Machine/Step.lean ====
section
/-! DEFINITION. One step: the command at the front of the queue, or, with none waiting, what the block does on its own. -/

namespace Sys2Proof.Machine

/-- Take the command at the front of the queue and run it on the queue's rest. With an empty queue the block's own next step that
is due is run, and with none due one unit of time passes. DESIGN CHOICE (log 3). -/
def step (s : State) : Host.Outcome State Fault Refusal :=
  match s.pending with
  | c :: rest => exec c { s with pending := rest }
  | [] =>
    match s.due with
    | c :: _ => exec c s
    | [] => .next s.pass

/-- `s` with the command that a word spells put at the front of its queue; no word spells one, so `s` itself. -/
def State.withFetchWord (s : State) (nbits w : Nat) : State :=
  match decodeTableWord nbits w with
  | some c => { s with pending := c :: s.pending }
  | none => s

end Sys2Proof.Machine
end

