-- ==== Sys2Proof/Safety.lean ====
section
/-! DEFINITION. The conditions the spec says always hold, each as a predicate on a state, and the words the statements
are made of. -/

namespace Sys2Proof.Machine

/-! ### Conditions that every step keeps -/

/-- Eight entries, 126 records, eleven factors (R41, R65, R148). -/
def State.TablesSized (s : State) : Prop :=
  s.entries.length = Config.entryCount ∧ s.stations.length = Config.stationCount ∧ s.factors.length = 11

/-- Exactly one record has side SELF, that of the management address (R70). -/
def State.OneSelf (s : State) : Prop :=
  isStation s.mgmtAddr = true ∧
    ∀ a, isStation a = true → ((s.stationAt a).side = .self ↔ a = s.mgmtAddr)

/-- No exchange and no held request names the management address, and a NOTE in the U slot names no station (R10, R70,
R93). -/
def State.SelfUntouched (s : State) : Prop :=
  (∀ i x, s.entryAt i = some x → x.key.addr ≠ s.mgmtAddr) ∧
    (∀ f t, s.handler = .window f t → f.addr ≠ s.mgmtAddr) ∧
    ∀ f, s.u.slot = some f → f.kind = .note → f.addr = 0

/-- The SELF record stands as the reset left it, its counters at 0 (R70, R84). -/
def State.SelfAsReset (s : State) : Prop :=
  s.stationAt s.mgmtAddr = .afterReset s.mgmtAddr s.mgmtAddr

/-- An UNKNOWN record's alias is its own address (R66, R71). -/
def State.UnknownAliasOwn (s : State) : Prop :=
  ∀ a, isStation a = true → (s.stationAt a).side = .unknown → (s.stationAt a).aliasAddr = a

/-- No two DOWNSTREAM or SCREENED records hold the same alias (R72). -/
def State.AliasesDistinct (s : State) : Prop :=
  ∀ a b c, isStation a = true → isStation b = true → (s.stationAt a).holdsAlias c = true →
    (s.stationAt b).holdsAlias c = true → a = b

/-- Every ladder level is 1..8 (R136). -/
def State.LevelsInRange (s : State) : Prop :=
  ∀ a, isStation a = true → 1 ≤ (s.stationAt a).level ∧ (s.stationAt a).level ≤ 8

/-- Every counter is 0..65535 (R32, R83). -/
def State.CountersInRange (s : State) : Prop :=
  (∀ p c, (s.port p).counters.get c ≤ Config.counterMax) ∧
    ∀ a c, isStation a = true → (s.stationAt a).counters.get c ≤ Config.counterMax

/-- Every factor's level is 0..3 (R148). -/
def State.FactorLevelsInRange (s : State) : Prop := ∀ x ∈ s.factors, x.level ≤ 3

/-- Every timing value lies in its range (R168). -/
def Timing.InRange (t : Timing) : Prop :=
  1 ≤ t.replyTimeout ∧ t.replyTimeout ≤ 255 ∧ t.retryLimit ≤ 7 ∧ 1 ≤ t.reAskInterval ∧ t.reAskInterval ≤ 255 ∧
    t.reAskLimit ≤ 15 ∧ 1 ≤ t.collectionTime ∧ t.collectionTime ≤ 255 ∧ 2 ≤ t.window ∧ t.window ≤ 63 ∧
    1 ≤ t.share ∧ t.share ≤ 8

/-- Every setting of a port lies in its range (R34). -/
def Settings.InRange (st : Settings) : Prop :=
  1 ≤ st.divisor ∧ st.divisor ≤ 1023 ∧ 1 ≤ st.stopBits ∧ st.stopBits ≤ 2 ∧ st.turnaround ≤ 15 ∧
    1 ≤ st.gapLimit ∧ st.gapLimit ≤ 15

/-- All settings lie in their ranges, live and pending (R34, R168). -/
def State.SettingsInRange (s : State) : Prop :=
  s.timing.InRange ∧ ∀ p, (s.port p).live.InRange ∧ (s.port p).pendingCopy.InRange

/-- In the Dispatch Order list: QUEUED, ON_LINE, FAR_WAIT or WITHDRAWN (R42). -/
def Exchange.inOrder (x : Exchange) : Bool :=
  match x.phase with
  | .ready _ _ => false
  | .queued => true
  | .onLine => true
  | .farWait _ => true
  | .withdrawn => true

/-- The Dispatch Order list holds exactly the entries that are QUEUED, ON_LINE, FAR_WAIT or WITHDRAWN, each once (R42). -/
def State.OrderExact (s : State) : Prop :=
  s.order.Nodup ∧ ∀ i, i ∈ s.order ↔ ∃ x, s.entryAt i = some x ∧ x.inOrder = true

/-- The entry on the line, absent when the line is IDLE (R114). -/
def Line.entry : Line → Option Nat
  | .idle => none
  | .sending i _ => some i
  | .awaiting i _ _ => some i

/-- The entry on the line is ON_LINE or WITHDRAWN, and no other entry is (R41, R114). -/
def State.LineExact (s : State) : Prop :=
  ∀ i, s.line.entry = some i ↔ ∃ x, s.entryAt i = some x ∧ x.holdsLine = true

/-- A frame that waits in the D transmitter is that of the ON_LINE entry the line is SENDING, and the Dispatcher is in RUN
(R125, R133). -/
def State.NoStartWhilePaused (s : State) : Prop :=
  s.d.tx.isWaiting = true →
    s.mode = .run ∧ ∃ i a x, s.line = .sending i a ∧ s.entryAt i = some x ∧ x.phase = .onLine

/-- No two live entries hold the same key (R40). -/
def State.LiveKeysDistinct (s : State) : Prop :=
  ∀ i j x y, s.entryAt i = some x → s.entryAt j = some y → x.isLive = true → y.isLive = true → x.key = y.key → i = j

/-- The Spent List: at most four keys, none twice, each of a SET, none of a live entry (R54). -/
def State.SpentExact (s : State) : Prop :=
  s.spent.length ≤ Config.spentCount ∧ s.spent.Nodup ∧
    ∀ k ∈ s.spent, k.kind = .set ∧ ∀ i x, s.entryAt i = some x → x.isLive = true → x.key ≠ k

/-- A live entry that belongs to a station belongs to one whose record has side DOWNSTREAM or UNKNOWN (R40); so does the
request a window holds, and both name a station. -/
def State.LiveStationsReachable (s : State) : Prop :=
  (∀ i x, s.entryAt i = some x → x.isLive = true → x.key.kind ≠ .note →
    isStation x.key.addr = true ∧
      ((s.stationAt x.key.addr).side = .downstream ∨ (s.stationAt x.key.addr).side = .unknown)) ∧
  ∀ f t, s.handler = .window f t → f.kind ≠ .note ∧ isStation f.addr = true ∧
    ((s.stationAt f.addr).side = .downstream ∨ (s.stationAt f.addr).side = .unknown)

/-- Attempts never exceed 8 nor re-asks 15; a QUEUED entry has an attempt left and a FAR_WAIT entry has made none (R39, R44,
R47). -/
def Exchange.CountsInRange (x : Exchange) : Prop :=
  x.attempts ≤ 8 ∧ x.reAsks ≤ 15 ∧ (x.phase = .queued → x.attempts ≤ 7) ∧ (∀ t, x.phase = .farWait t → x.attempts = 0)

/-- The counts of every entry lie in their ranges, and so do the limits they are held against (R39, R134). -/
def State.AttemptsInRange (s : State) : Prop :=
  s.timing.retryLimit ≤ 7 ∧ s.timing.reAskLimit ≤ 15 ∧ ∀ i x, s.entryAt i = some x → x.CountsInRange

/-- While RESET_N is high, the handler is ANSWERING exactly while the U transmitter holds a frame (R88, R90, R91). -/
def State.AnsweringExact (s : State) : Prop :=
  s.pins.resetN = true → (s.u.tx ≠ .idle ↔ ∃ m, s.handler = .answering m)

/-- The D port and its line: a frame is in the D transmitter only while the line is SENDING, none waits in the slot while one is
sent (R26, R30, R114), and D settings whose DONE has ended never wait while the line is free (R36). -/
def State.DPortExact (s : State) : Prop :=
  (s.d.tx ≠ .idle → ∃ i a, s.line = .sending i a) ∧ (∀ f l, s.d.tx = .sending f l → s.d.slot = none) ∧
    ¬ (s.d.pendingFlag = true ∧ s.dChangeDue = true ∧ s.lineFree = true)

/-- A frame record the content judgement passes: well formed by R10. -/
def FrameRecord.WellFormed (f : FrameRecord) : Prop :=
  f.addr ≤ 255 ∧ f.addr ≠ 127 ∧ (f.addr = 0 ↔ f.kind = .note) ∧ (f.posted = true → f.kind = .set) ∧
    (f.kind.isRequest = true → f.attn = 0) ∧ f.kind.lenAllowed f.payload.length = true

/-- What an entry holds, as R39 gives it: a request's key with address 0 for a NOTE alone, POSTED for a SET alone, a payload a
frame can carry, and an outcome that an answer can carry. -/
def Exchange.Sound (x : Exchange) : Prop :=
  x.key.kind.isRequest = true ∧ x.key.addr ≤ 126 ∧ (x.key.addr = 0 ↔ x.key.kind = .note) ∧
    (x.posted = true → x.key.kind = .set) ∧ x.key.kind.lenAllowed x.payload.length = true ∧
    ∀ o t, x.phase = .ready o t → o.kind.isRequest = false ∧ o.kind.lenAllowed o.payload.length = true

/-- The frame a transmitter holds. -/
def Transmitter.frame : Transmitter → Option FrameRecord
  | .idle => none
  | .waiting f => some f
  | .sending f _ => some f

/-- Every frame in a slot or a transmitter is well formed (R11, R14), and what frames are built from is sound: the entries, the
aliases, the address of the frame on the line, the request a window holds and the stored answer (R39, R65, R114, R178). -/
def State.FramesSound (s : State) : Prop :=
  (∀ p f, (s.port p).slot = some f ∨ (s.port p).tx.frame = some f → f.WellFormed) ∧
    (∀ i x, s.entryAt i = some x → x.Sound) ∧
    (∀ a, isStation a = true → isStation (s.stationAt a).aliasAddr = true) ∧
    (∀ i a t, s.line = .sending i a ∨ s.line = .awaiting i a t →
      ∀ x, s.entryAt i = some x → a ≤ 126 ∧ (a = 0 ↔ x.key.kind = .note)) ∧
    (∀ f t, s.handler = .window f t → f.WellFormed ∧ f.kind.isRequest = true ∧ isStation f.addr = true) ∧
    ∀ m, s.memory = some m → m.payload.length ≤ 64

/-! ### Words of the statements -/

/-- The handler can take frame f: RESET_N is high, the handler IDLE or in WINDOW, and f in the U slot (R26). -/
def State.CanTake (s : State) (f : FrameRecord) : Prop :=
  s.pins.resetN = true ∧ (s.handler = .idle ∨ ∃ g t, s.handler = .window g t) ∧ s.u.slot = some f

/-- A management request the handler can take: an ASK or SET to the management address for an object (R93). -/
def State.CanManage (s : State) (f : FrameRecord) (kind : Kind) (object : Nat) : Prop :=
  s.CanTake f ∧ f.addr = s.mgmtAddr ∧ f.kind = kind ∧ f.object.toNat = object

/-- A request for a station the handler can take (section 5.2). -/
def State.CanRequest (s : State) (f : FrameRecord) : Prop :=
  s.CanTake f ∧ (f.kind = .ask ∨ f.kind = .set) ∧ isStation f.addr = true ∧ f.addr ≠ s.mgmtAddr

/-- State s with the frame in the U slot taken and an answer waiting in the U transmitter (R89): the answer carries the
request's ADDR, TAG and OBJECT, POSTED clear (R15). -/
def State.answeredWith (s : State) (f : FrameRecord) (kind : Kind) (attn : Attn) (payload : List Byte)
    (mark : AnswerMark) : State :=
  { s with
    u := { s.u with
      slot := none
      tx := .waiting
        { addr := f.addr, kind := kind, tag := f.tag, posted := false, attn := attn, object := f.object
          payload := payload } }
    handler := .answering mark }

/-- State s with the frame in the U slot taken and met with silence (R89). -/
def State.metWithSilence (s : State) : State := { s with u := { s.u with slot := none }, handler := .idle }

/-- Command c has the handler judge request f by match-or-admit: it takes the request of a DOWNSTREAM station, or of an
UNKNOWN one with a live entry of its key, or the window that holds it runs out with the assembler in HUNT (R95, R96, R100). -/
def State.Judges (s : State) (c : Instr) (f : FrameRecord) : Prop :=
  (c = .stationRequest ∧ s.CanRequest f ∧
    ((s.stationAt f.addr).side = .downstream ∨
      ((s.stationAt f.addr).side = .unknown ∧
        ∃ i x, s.entryAt i = some x ∧ x.isLive = true ∧ x.key = f.key))) ∨
  (c = .discoveryWindowExpiry ∧ s.pins.resetN = true ∧ (∃ t, s.handler = .window f t) ∧ s.u.slot = none ∧
    s.u.assembler = .hunt ∧ (f.kind = .ask ∨ f.kind = .set) ∧ isStation f.addr = true)

/-- No live entry holds the key of request f (R40). -/
def State.NoLiveEntry (s : State) (f : FrameRecord) : Prop :=
  ∀ i x, s.entryAt i = some x → x.isLive = true → x.key ≠ f.key

/-- Another record than that of station a is DOWNSTREAM or SCREENED with alias `held` (R72). -/
def State.HeldByAnother (s : State) (a held : Nat) : Prop :=
  ∃ b, b ≠ a ∧ isStation b = true ∧ ((s.stationAt b).side = .downstream ∨ (s.stationAt b).side = .screened) ∧
    (s.stationAt b).aliasAddr = held

/-- Every one of the eight entries is taken (R41). -/
def State.TableFull (s : State) : Prop := ∀ i, i < 8 → s.entryAt i ≠ none

/-- Entry i is the lowest-numbered FREE entry (R43). -/
def State.LowestFree (s : State) (i : Nat) : Prop := i < 8 ∧ s.entryAt i = none ∧ ∀ j, j < i → s.entryAt j ≠ none

/-- The class an entry competes with in a selection, in the words of R116. -/
def State.competesWith (s : State) (x : Exchange) : Nat :=
  if x.key.kind ≠ .note ∧ (s.stationAt x.key.addr).level = 8 then 0 else x.cls

/-- State s with record a replaced. -/
def State.withRecord (s : State) (a : Nat) (r : StationRecord) : State := { s with stations := s.stations.set (a - 1) r }

/-- State s with entry i put to e. -/
def State.withEntry (s : State) (i : Nat) (e : Option Exchange) : State := { s with entries := s.entries.set i e }

/-- State s with entry i FREE and out of the Dispatch Order list (R42). -/
def State.withFreed (s : State) (i : Nat) : State := { s.withEntry i none with order := s.order.filter (· ≠ i) }

/-- State s with the line in a given state. -/
def State.withLine (s : State) (l : Line) : State := { s with line := l }

/-- State s after a move of station a's ladder to `level`, with the counters c: STATION_QUIET is raised when the move takes it
from below 8 to 8 (R136). -/
def State.withLevel (s : State) (a level : Nat) (c : StationCounters) : State :=
  let s' := s.withRecord a { s.stationAt a with level := level, counters := c }
  if (s.stationAt a).level < 8 ∧ level = 8 then s'.raise .stationQuiet else s'

/-- The downstream line is free (R36). -/
def State.LineIsFree (s : State) : Prop :=
  (∀ i x, s.entryAt i = some x → x.phase ≠ .onLine ∧ x.phase ≠ .withdrawn) ∧ s.d.tx = .idle

/-- State t is r, except that the event which led to it found the line free with D settings waiting for that: they are live in t, the
assembler is in HUNT and a character under way is lost (R36, log 12). -/
def SettledOn (r t : State) : Prop :=
  (r.d.pendingFlag = true ∧ r.dChangeDue = true ∧ r.LineIsFree →
    t = { r with
      d := { r.d with live := r.d.pendingCopy, pendingFlag := false, receiver := r.d.receiver.abandon, assembler := .hunt }
      dChangeDue := false }) ∧
  (¬ (r.d.pendingFlag = true ∧ r.dChangeDue = true ∧ r.LineIsFree) → t = r)

/-- The owner of port p has no frame to take first: RESET_N is low, the slot is empty, or the handler is ANSWERING (R26, R37). -/
def State.NothingToTake (s : State) (p : Port) : Prop :=
  s.pins.resetN = false ∨ (s.port p).slot = none ∨ (p = .u ∧ ∃ m, s.handler = .answering m)

/-- Port p takes the next line event as it stands: it is not deaf, and its owner has no frame to take first. -/
def State.Listens (s : State) (p : Port) : Prop := s.deaf p = false ∧ s.NothingToTake p

/-- Port p reads the character that ends next: it listens and has not missed that character's start bit (R30). -/
def State.Hears (s : State) (p : Port) : Prop := s.Listens p ∧ (s.port p).receiver ≠ .missed

/-- The line error factor of a port (R32). -/
def lineErrorOf : Port → Factor
  | .u => .uLineError
  | .d => .dLineError

/-- From s to t, port p lost the frame it was collecting, counted once under c with its line error factor (R23, R24, R25, R26). On U a
window is closed (R99); on D a reply timer that waited for the frame takes effect (R126). Nothing else changes. -/
def FrameLost (s t : State) (p : Port) (c : PortCounter) : Prop :=
  let r := (s.updatePort p fun q => { q with assembler := .hunt, counters := q.counters.bump c }).raise (lineErrorOf p)
  match p with
  | .u =>
    (∀ f τ, s.handler = .window f τ → t = { r with handler := .idle }) ∧
      ((∀ f τ, s.handler ≠ .window f τ) → t = r)
  | .d =>
    ((∀ i a, s.line ≠ .awaiting i a 0) → t = r) ∧
      ∀ i a x, s.line = .awaiting i a 0 → s.entryAt i = some x → exec .replyTimeout r = .next t

/-- Exchange x of entry i is on the line, its frame sent to downstream address a (R114). -/
def State.OnTheLine (s : State) (i a : Nat) (x : Exchange) : Prop :=
  (s.line = .sending i a ∨ ∃ τ, s.line = .awaiting i a τ) ∧ s.entryAt i = some x

/-- Answer f matches exchange x, whose frame went to downstream address a (R120). -/
def Matches (x : Exchange) (a : Nat) (f : FrameRecord) : Prop :=
  f.addr = a ∧ f.tag = x.key.tag ∧ f.object = x.key.object ∧
    ((x.key.kind = .ask ∧ f.kind = .data) ∨ (x.key.kind = .set ∧ f.kind = .done) ∨
      ((x.key.kind = .ask ∨ x.key.kind = .set) ∧
        f.kind ∈ [Kind.fault, .wait, .busy, .absent, .denied, .stale, .silent]))

/-- The Dispatcher can take a matching answer f for exchange x of entry i, which belongs to a station (R121). -/
def State.CanMatch (s : State) (f : FrameRecord) (i a : Nat) (x : Exchange) : Prop :=
  s.TablesSized ∧ s.pins.resetN = true ∧ s.d.slot = some f ∧ s.OnTheLine i a x ∧ Matches x a f ∧
    isStation x.key.addr = true

/-- State s with answer f taken from the D slot for exchange x: a frame that waited is withdrawn, the ladder level is set to 8 by a far
ABSENT and to 1 by any other answer, and the line is IDLE (R121, R142, R143). -/
def State.answerTaken (s : State) (f : FrameRecord) (x : Exchange) : State :=
  { s.withLevel x.key.addr (if f.kind = .absent then 8 else 1) (s.stationAt x.key.addr).counters with
    d := { s.d with slot := none, tx := if s.d.tx.isWaiting then .idle else s.d.tx }
    line := .idle }

/-- Exchange x without the attempt whose frame still waited (R121). -/
def Exchange.lessWaiting (x : Exchange) (s : State) : Exchange :=
  { x with attempts := if s.d.tx.isWaiting then x.attempts - 1 else x.attempts }

/-- State r with exchange x of entry i settled by outcome o: READY with its collection timer started, or, for a posted SET, FREE, with
LOST_WRITES counted and LOST_WRITE raised unless the outcome is DONE (R45, R46). -/
def State.settledWith (r : State) (i : Nat) (x : Exchange) (o : HeldOutcome) : State :=
  if x.posted then
    if o.kind = .done then r.withFreed i
    else
      ((r.withFreed i).withRecord x.key.addr
        { r.stationAt x.key.addr with
          counters := (r.stationAt x.key.addr).counters.bump .lostWrites }).raise .lostWrite
  else
    { r.withEntry i (some { x with phase := .ready o (r.timing.collectionTime * 368640) }) with
      order := r.order.filter (· ≠ i) }

/-- State r with SILENT_OUTCOMES counted on station a (R123, R128). -/
def State.silenceCounted (r : State) (a : Nat) : State :=
  r.withRecord a { r.stationAt a with counters := (r.stationAt a).counters.bump .silentOutcomes }

/-- From s to t, the exchanges that `own` picks were flushed (R57, R61): FREE, or WITHDRAWN if they held the line, unless their frame
still waited in the D transmitter, which frees them and the line (R125). The Dispatch Order list keeps the entries that are not FREE.
Of the rest of the state, only D settings that waited for the line may have changed (R36). -/
def Flushed (s t : State) (own : Exchange → Bool) : Prop :=
  let drops (i : Nat) := (∃ a, s.line = .sending i a) ∧ s.d.tx.isWaiting = true
  let dropped := ∃ i x, s.entryAt i = some x ∧ own x = true ∧ drops i
  (∀ i, s.entryAt i = none → t.entryAt i = none) ∧
  (∀ i x, s.entryAt i = some x → own x = false → t.entryAt i = some x) ∧
  (∀ i x, s.entryAt i = some x → own x = true → x.holdsLine = false → t.entryAt i = none) ∧
  (∀ i x, s.entryAt i = some x → own x = true → x.holdsLine = true →
    (drops i → t.entryAt i = none) ∧ (¬ drops i → t.entryAt i = some { x with phase := .withdrawn })) ∧
  t.entries.length = s.entries.length ∧ t.order = s.order.filter (fun i => (t.entryAt i).isSome) ∧
  (dropped →
    SettledOn { s with d := { s.d with tx := .idle }, line := .idle, entries := t.entries, order := t.order } t) ∧
  (¬ dropped → SettledOn { s with entries := t.entries, order := t.order } t)

/-- Value k of `values`, counted from 1, is the first that lies outside its range (R161). -/
def FirstOutside (values : List Nat) (ranges : List (Nat × Nat)) (k : Nat) : Prop :=
  1 ≤ k ∧ (∃ (v : Nat) (r : Nat × Nat), values[k - 1]? = some v ∧ ranges[k - 1]? = some r ∧ ¬ (r.1 ≤ v ∧ v ≤ r.2)) ∧
    ∀ (j v : Nat) (r : Nat × Nat), j < k - 1 → values[j]? = some v → ranges[j]? = some r → r.1 ≤ v ∧ v ≤ r.2

/-- Every value lies in its range. -/
def AllInside (values : List Nat) (ranges : List (Nat × Nat)) : Prop :=
  ∀ (j v : Nat) (r : Nat × Nat), values[j]? = some v → ranges[j]? = some r → r.1 ≤ v ∧ v ≤ r.2

/-- The ranges of the eight timing values, in field order (R168). -/
def timingRanges : List (Nat × Nat) := [(1, 255), (0, 7), (1, 255), (0, 15), (1, 255), (2, 63), (1, 8), (0, 3)]

/-- The ranges of the five port settings, in field order (R167). -/
def portRanges : List (Nat × Nat) := [(1, 1023), (0, 2), (1, 2), (0, 15), (1, 15)]

/-- The five values of a port SET, the divisor from two bytes, high first (R167). -/
def portValues (payload : List Byte) : List Nat :=
  [256 * byteAt payload 0 + byteAt payload 1, byteAt payload 2, byteAt payload 3, byteAt payload 4, byteAt payload 5]

/-- The bytes of a payload as numbers. -/
def byteValues (payload : List Byte) : List Nat := payload.map (·.toNat)

/-- State s with a management request taken, any stored read-and-clear answer forgotten, and the answer waiting (R159, R178). -/
def State.managed (s : State) (f : FrameRecord) (kind : Kind) (payload : List Byte) (mark : AnswerMark) : State :=
  ({ s with memory := none } : State).answeredWith f kind s.summary payload mark

/-- State s with request f refused: a reason code and a field index, and nothing else changed (R161). -/
def State.refused (s : State) (f : FrameRecord) (code index : Nat) : State :=
  s.managed f .refused [BitVec.ofNat 8 code, BitVec.ofNat 8 index] .plain

/-- Receive characters one after another, each sent at the port's live settings. -/
def receiveChars (p : Port) : List Byte → State → Host.Outcome State Fault Refusal
  | [], s => .next s
  | b :: rest, s =>
    match exec (.characterReceived p (.samples (charSamples (s.port p).live b))) s with
    | .next t => receiveChars p rest t
    | .fault r => .fault r
    | .refused r => .refused r

end Sys2Proof.Machine
end

