-- ==== Sys2Proof/Certificates/Slice0/Obligations.lean ====
section
/-! DEFINITION. The statements about the CZ-264. Each is listed in OBLIGATIONS.json with the rules it rests on. -/

section

open Sys2Proof Sys2Proof.Machine

/-! ### The machine -/

/-- A step with a command at the front of the queue is that command on the queue's rest. -/
def Obligations.StepRunsTheFrontCommand : Prop :=
  ∀ (c : Instr) (rest : List Instr) (s : State),
    step { s with pending := c :: rest } = exec c { s with pending := rest }

/-- With an empty queue one of the block's own steps that is due runs, else one unit of time passes; a taking is due when its owner can take
the frame, an expiry when its timer has run out, a sending when its conditions hold. The model's choice and reading: log 3, log 4, log 5;
the straps that come with a frame's end: log 7; the gap timer at 0, and through a false start: log 14, log 17. -/
def Obligations.OwnStepsRunWhenTheirMomentHasCome : Prop :=
  ∀ s : State, s.pending = [] → s.pins.resetN = true →
    (s.due = [] → step s = .next s.tick) ∧ (∀ c rest, s.due = c :: rest → step s = exec c s) ∧
    (∀ k : Taking, k.command ∈ s.due ↔ ∃ f, s.CanTake f ∧ takingOf s.mgmtAddr f = k) ∧
    (.dAnswerFrame ∈ s.due ↔ ∃ f, s.d.slot = some f ∧ f.kind.isRequest = false) ∧
    (.foreignRequest ∈ s.due ↔ ∃ f, s.d.slot = some f ∧ f.kind.isRequest = true) ∧
    (∀ p straps, .frameSent p straps ∈ s.due ↔ straps = s.pins.straps ∧ ∃ f, (s.port p).tx = .sending f 0) ∧
    (∀ p, .gapLimitExpiry p ∈ s.due ↔
      (∃ chars e, (s.port p).assembler = .collect chars e 0) ∧ (s.port p).receiver ≠ .reading) ∧
    (∀ p, .transmitStart p ∈ s.due ↔
      (∃ f, (s.port p).tx = .waiting f) ∧ (s.port p).assembler = .hunt ∧ (s.port p).receiver ≠ .reading ∧
        ∀ t, (s.port p).sinceLast = some t → (s.port p).live.turnaround * (s.port p).live.charTime ≤ t) ∧
    (.discoveryWindowExpiry ∈ s.due ↔ (∃ f, s.handler = .window f 0) ∧ s.u.assembler = .hunt) ∧
    (.replyTimeout ∈ s.due ↔ (∃ i a, s.line = .awaiting i a 0) ∧ s.d.assembler = .hunt) ∧
    (∀ i, .reAskExpiry i ∈ s.due ↔ i < 8 ∧ ∃ x, s.entryAt i = some x ∧ x.phase = .farWait 0) ∧
    (∀ i, .collectionExpiry i ∈ s.due ↔ i < 8 ∧ ∃ x o, s.entryAt i = some x ∧ x.phase = .ready o 0) ∧
    (.pauseTimerExpiry ∈ s.due ↔ s.mode = .paused 0) ∧ (.ladderStep ∈ s.due ↔ s.stepTimer = some 0) ∧
    (.deafPeriodEnd ∈ s.due ↔ s.restartDeaf = some 0) ∧
    (.selection ∈ s.due ↔
      s.mode = .run ∧ s.line = .idle ∧ ∃ i ∈ s.order, ∃ x, s.entryAt i = some x ∧ x.phase = .queued)

/-- One unit of time takes one unit off every running timer and changes nothing else. The model's unit: log 5. -/
def Obligations.AUnitOfTimeMovesOnlyTimers : Prop :=
  ∀ s : State, s.pending = [] → s.pins.resetN = true → s.due = [] → ∃ t : State, step s = .next t ∧
    t = { s with
      u := t.u, d := t.d, restartDeaf := s.restartDeaf.map (· - 1), entries := t.entries
      stepTimer := s.stepTimer.map (· - 1), handler := t.handler, mode := t.mode, line := t.line } ∧
    (∀ p, t.port p = { s.port p with
      assembler := (t.port p).assembler, tx := (t.port p).tx, sinceLast := (s.port p).sinceLast.map (· + 1) }) ∧
    (∀ p chars e n, (s.port p).assembler = .collect chars e n → (t.port p).assembler = .collect chars e (n - 1)) ∧
    (∀ p, (s.port p).assembler = .hunt → (t.port p).assembler = .hunt) ∧
    (∀ p f n, (s.port p).tx = .sending f n → (t.port p).tx = .sending f (n - 1)) ∧
    (∀ p, (∀ f n, (s.port p).tx ≠ .sending f n) → (t.port p).tx = (s.port p).tx) ∧
    (∀ i x n, s.entryAt i = some x → x.phase = .farWait n → t.entryAt i = some { x with phase := .farWait (n - 1) }) ∧
    (∀ i x o n, s.entryAt i = some x → x.phase = .ready o n →
      t.entryAt i = some { x with phase := .ready o (n - 1) }) ∧
    (∀ i, (∀ x n, s.entryAt i = some x → x.phase ≠ .farWait n ∧ ∀ o, x.phase ≠ .ready o n) →
      t.entryAt i = s.entryAt i) ∧
    (∀ f n, s.handler = .window f n → t.handler = .window f (n - 1)) ∧
    ((∀ f n, s.handler ≠ .window f n) → t.handler = s.handler) ∧
    (∀ n, s.mode = .paused n → t.mode = .paused (n - 1)) ∧ (s.mode = .run → t.mode = .run) ∧
    (∀ i a n, s.line = .awaiting i a n → t.line = .awaiting i a (n - 1)) ∧
    ((∀ i a n, s.line ≠ .awaiting i a n) → t.line = s.line)

/-- Every command ends in a next state, in every state, and leaves the queue as it is. That one whose condition fails, or that comes while
RESET_N is low, still answers a next state is the model's: log 2, log 11. -/
def Obligations.EveryCommandCompletesAndKeepsTheQueue : Prop :=
  ∀ (c : Instr) (s : State), ∃ t : State, exec c s = .next t ∧ t.pending = s.pending

/-! ### Reset -/

/-- RESET_N low stops both transmitters and deafens both receivers. That a character under way is then missed, and that until it goes high
nothing else happens but that characters begin and end on the lines unheard, is the model's choice: log 11. -/
def Obligations.ResetHoldsThePartUntilItEnds : Prop :=
  (∀ s : State, ∃ t : State, exec .resetNLow s = .next t ∧
    t = { s with
      pins := { s.pins with resetN := false }
      u := { s.u with tx := .idle, receiver := s.u.receiver.abandon }
      d := { s.d with tx := .idle, receiver := s.d.receiver.abandon } } ∧
    ∀ p, t.driverEnable p = false ∧ t.txLevel p = true ∧ t.deaf p = true) ∧
  ∀ (s : State) (c : Instr), s.pins.resetN = false → c ≠ .resetNLow → (∀ straps, c ≠ .resetEnd straps) →
    (∀ p e, c ≠ .characterReceived p e) → exec c s = .next s

/-- The Exchange Table after power-on, RESET_N going high and a full restart. -/
def Obligations.ResetEmptiesTheExchangeTable : Prop :=
  let fresh (r : State) : Prop :=
    r.entries = List.replicate 8 none ∧ (∀ i, r.entryAt i = none) ∧ r.order = [] ∧ r.spent = [] ∧
      r.timing.collectionTime = 50 ∧ r.timing.reAskInterval = 10
  fresh State.reset ∧ (∀ straps s, ∃ r, exec (.resetEnd straps) s = .next r ∧ fresh r) ∧
    ∀ (straps : Straps) (s : State) (f : FrameRecord) (left : Nat),
      s.pins.resetN = true → s.u.tx = .sending f left → s.handler = .answering .restart →
      ∃ r, exec (.frameSent .u straps) s = .next r ∧ fresh r

/-- What RESET_END leaves in every other block. Two clauses are the model's choice: that a character under way on a line goes on there and
is missed, log 11; that power-on samples all straps low, log 6. -/
def Obligations.ResetSetsEveryOtherBlock : Prop :=
  exec (.resetEnd strapsAllLow) State.reset = .next State.reset ∧
  ∀ (straps : Straps) (s : State), ∃ t : State, exec (.resetEnd straps) s = .next t ∧
    t.pins = ⟨straps, true⟩ ∧ t.pending = s.pending ∧
    (∀ p, t.port p =
      { live := ⟨straps.divisor, .none, 1, 1, 2⟩, pendingCopy := ⟨straps.divisor, .none, 1, 1, 2⟩, pendingFlag := false
        receiver := (s.port p).receiver.abandon, assembler := .hunt, slot := none, tx := .idle, sinceLast := none
        counters := ⟨0, 0, 0, 0, 0, 0, 0, 0, 0, 0, 0⟩ }) ∧
    straps.divisor =
      (if straps.rate1 then (if straps.rate0 then 4 else 12) else (if straps.rate0 then 24 else 48)) ∧
    t.mgmtAddr = (if straps.ma = 0 ∨ straps.ma = 127 then 126 else straps.ma.toNat) ∧
    (∀ a, isStation a = true → t.stationAt a =
      { side := if a = t.mgmtAddr then .self else .unknown, aliasAddr := a, cls := 1, permit := true, level := 1
        counters := ⟨0, 0, 0, 0, 0, 0, 0⟩ }) ∧
    t.handler = .idle ∧ t.policy = (if straps.disc then .opened else .closed) ∧ t.forwarding = true ∧
    t.mode = .run ∧ t.line = .idle ∧ t.timing = ⟨20, 2, 10, 8, 50, 4, 4, .s1⟩ ∧
    t.stepTimer = some (1000 * 36864) ∧ t.memory = none ∧ t.restartDeaf = none ∧ t.dChangeDue = false ∧
    t.factors =
      [⟨true, 3⟩, ⟨false, 2⟩, ⟨false, 1⟩, ⟨false, 1⟩, ⟨false, 1⟩, ⟨false, 0⟩, ⟨false, 1⟩, ⟨false, 0⟩, ⟨false, 0⟩,
        ⟨false, 2⟩, ⟨false, 2⟩] ∧
    t.summary = 3

/-- The end of the RESTART's DONE is the full restart: the condition of a reset with the straps as they now stand, and both receivers deaf
for 1 ms. The straps come with the command: log 7. What becomes of a character under way then is the model's choice: log 11. -/
def Obligations.FullRestartAtTheEndOfItsDone : Prop :=
  (∀ (s : State) (straps : Straps) (f : FrameRecord) (left : Nat),
    s.pins.resetN = true → s.u.tx = .sending f left → s.handler = .answering .restart →
    ∃ r, exec (.resetEnd straps) s = .next r ∧
      exec (.frameSent .u straps) s = .next { r with restartDeaf := some 36864 }) ∧
  (∀ (s : State) (n : Nat), s.pins.resetN = true → s.restartDeaf = some n →
    (exec .deafPeriodEnd s = .next { s with restartDeaf := none }) ∧
    ∀ p, (s.port p).slot = none →
      exec (.characterReceived p .startEdge) s = .next (s.updatePort p fun q => { q with receiver := .missed }) ∧
      ∀ levels, exec (.characterReceived p (.samples levels)) s = .next (s.updatePort p fun q =>
        { q with receiver := .looking }))

/-! ### Factors (chapter 8) -/

/-- The summary is the highest level among the pending factors, 0 when none of a non-zero level is pending; raising a factor makes it
pending, whatever its level, and changes nothing else (R149, R150). -/
def Obligations.SummaryIsTheHighestPendingLevel : Prop :=
  (∀ s : State, s.FactorLevelsInRange →
    (∀ x ∈ s.factors, x.pending = true → x.level ≤ s.summary.toNat) ∧
    (s.summary.toNat = 0 ∨ ∃ x ∈ s.factors, x.pending = true ∧ x.level = s.summary.toNat)) ∧
  ∀ (s : State) (g : Factor), s.TablesSized →
    s.raise g = { s with factors := (s.raise g).factors } ∧
    (s.raise g).factorAt g.code = { s.factorAt g.code with pending := true } ∧
    ∀ k, 1 ≤ k → k ≠ g.code → (s.raise g).factorAt k = s.factorAt k

/-! ### Frames and characters (chapters 1, 2) -/

/-- A frame's own check fed in after its body leaves the register at 0. -/
def Obligations.CheckOfAFrameWithItsCheckIsZero : Prop :=
  ∀ bytes : List Byte, check (bytes ++ [hiByte (check bytes), loByte (check bytes)]) = 0

/-- The characters of a well-formed frame, collected without error, are judged well formed and give back that very frame. -/
def Obligations.FrameCharactersGiveTheFrameBack : Prop :=
  ∀ f : FrameRecord, f.WellFormed → f.chars.length = f.payload.length + 9 ∧ judgeFrame f.chars none = .wellFormed f

/-- A frame with a good check is malformed exactly under the eight conditions of R10, with the ranges of R4; else its record holds the
fields in the places of R1 and R2. -/
def Obligations.ContentIsMalformedExactly : Prop :=
  ∀ chars : List Byte,
    let addr := byteAt chars 1
    let kind := byteAt chars 2
    let ctrl := byteAt chars 3
    let len := byteAt chars 6
    (judgeContent chars = none ↔
      kind ∉ [0x01, 0x02, 0x03, 0x11, 0x12, 0x13, 0x21, 0x22, 0x23, 0x24, 0x25, 0x26, 0x27] ∨ addr = 127 ∨
      (addr = 0 ∧ kind ≠ 0x03) ∨ (kind = 0x03 ∧ addr ≠ 0) ∨ 128 ≤ ctrl ∨ (ctrl / 16 % 2 = 1 ∧ kind ≠ 0x02) ∨
      (ctrl / 32 % 4 ≠ 0 ∧ kind ∈ [0x01, 0x02, 0x03]) ∨
      (kind ∈ [0x01, 0x12, 0x21, 0x22, 0x23, 0x24, 0x25, 0x26] ∧ len ≠ 0) ∨
      (kind ∈ [0x02, 0x03, 0x11] ∧ 64 < len) ∨ (kind = 0x13 ∧ (len = 0 ∨ 64 < len)) ∨ (kind = 0x27 ∧ len ≠ 2)) ∧
    ∀ f, judgeContent chars = some f →
      f.addr = addr ∧ f.kind.code.toNat = kind ∧ f.tag.toNat = ctrl % 16 ∧ f.posted = decide (ctrl / 16 % 2 = 1) ∧
        f.attn.toNat = ctrl / 32 % 4 ∧ f.object.toNat = 256 * byteAt chars 4 + byteAt chars 5 ∧
        f.payload = (chars.drop 7).take len

/-- A character sent at a port's settings is read as its byte; a wrong parity bit is a parity error, else a stop bit at space a framing
error; a start bit that is over at its middle is no character. A character whose start bit falls while the port is deaf is missed and lost
whole. That a character comes as its edge and its samples is the model's form: log 8. -/
def Obligations.CharactersAreReadAsSampledUnlessBegunUnheard : Prop :=
  (∀ (st : Settings) (b : Byte), 1 ≤ st.stopBits → readCharacter st (charSamples st b) = some ⟨b, none⟩) ∧
  (∀ (st : Settings) (b : Byte) (parity stop : Bool),
    readCharacter st
        (([false] ++ (List.range 8).map (fun k => b.getLsbD k) ++ (if st.parity = .none then [] else [parity]) ++
          [stop]).flatMap fun bit => List.replicate 16 bit) =
      some ⟨b, if st.parity ≠ .none ∧ parity ≠ parityBit st.parity b then some .parity
        else if stop then none else some .framing⟩) ∧
  (∀ b : Byte, (ones b + (parityBit .even b).toNat) % 2 = 0 ∧ (ones b + (parityBit .odd b).toNat) % 2 = 1) ∧
  (∀ (st : Settings) (levels : List Bool),
    levels.getD 0 true = false → levels.getD 8 true = true → readCharacter st levels = none) ∧
  ∀ (s : State) (p : Port) (levels : List Bool), s.NothingToTake p →
    exec (.characterReceived p .startEdge) s = .next (s.updatePort p fun q =>
      { q with receiver := if s.deaf p then .missed else .reading }) ∧
    (s.deaf p = true ∨ (s.port p).receiver = .missed →
      exec (.characterReceived p (.samples levels)) s = .next (s.updatePort p fun q => { q with receiver := .looking }))

/-- A well-formed frame sent to a listening port character by character stands in its slot, counted FRAMES_IN, and has changed nothing
else. -/
def Obligations.AFrameOnTheLineReachesTheSlot : Prop :=
  ∀ (p : Port) (f : FrameRecord) (s : State), f.WellFormed → s.Hears p → (s.port p).slot = none →
    1 ≤ (s.port p).live.stopBits → (s.port p).assembler = .hunt →
    receiveChars p f.chars s = .next (s.updatePort p fun q =>
      { q with receiver := .looking, sinceLast := some 0, slot := some f, counters := q.counters.bump .framesIn })

/-- In HUNT only a clean 96h starts a frame; any other character is STRAY; a false start leaves no trace. -/
def Obligations.HuntTakesOnlyACleanLead : Prop :=
  ∀ (s : State) (p : Port) (levels : List Bool), s.Hears p → (s.port p).assembler = .hunt →
    (∀ ch, readCharacter (s.port p).live levels = some ch →
      (ch.value = 0x96 ∧ ch.error = none →
        exec (.characterReceived p (.samples levels)) s = .next (s.updatePort p fun q =>
          { q with
            receiver := .looking, sinceLast := some 0
            assembler := .collect [0x96] none (q.live.gapLimit * q.live.charTime) })) ∧
      (¬ (ch.value = 0x96 ∧ ch.error = none) →
        exec (.characterReceived p (.samples levels)) s = .next ((s.updatePort p fun q =>
          { q with receiver := .looking, sinceLast := some 0, counters := q.counters.bump .stray }).raise
            (lineErrorOf p)))) ∧
    (readCharacter (s.port p).live levels = none →
      exec (.characterReceived p (.samples levels)) s = .next (s.updatePort p fun q =>
        { q with receiver := .looking }))

/-- In COLLECT a character is appended and the gap timer starts again; at LEN above 64 the frame ends OVERSIZE; at its length it ends under
one result, in the order of R25, stored only in an empty slot. -/
def Obligations.CollectedFramesEndUnderOneResult : Prop :=
  ∀ (s : State) (p : Port) (levels : List Bool) (ch : RxChar) (before : List Byte) (spoiled : Option CharError)
    (gap : Nat),
    s.Hears p → (s.port p).assembler = .collect before spoiled gap →
    readCharacter (s.port p).live levels = some ch →
    let chars := before ++ [ch.value]
    let first := spoiled.or ch.error
    let len := byteAt chars 6
    let heard := s.updatePort p fun q => { q with receiver := .looking, sinceLast := some 0 }
    ∃ t : State, exec (.characterReceived p (.samples levels)) s = .next t ∧
      (chars.length = 7 ∧ 64 < len → FrameLost heard t p .oversize) ∧
      (chars.length < 7 ∨ (chars.length = 7 ∧ len ≤ 64) ∨ (7 < chars.length ∧ chars.length < len + 9) →
        t = heard.updatePort p fun q =>
          { q with assembler := .collect chars first (q.live.gapLimit * q.live.charTime) }) ∧
      (7 < chars.length ∧ chars.length = len + 9 →
        (first = some .parity → FrameLost heard t p .parityErr) ∧
        (first = some .framing → FrameLost heard t p .framingErr) ∧
        (first = none → checkGood chars = false → FrameLost heard t p .checkErr) ∧
        (first = none → checkGood chars = true → judgeContent chars = none → FrameLost heard t p .malformed) ∧
        ∀ f, first = none → checkGood chars = true → judgeContent chars = some f →
          ((s.port p).slot = none → t = heard.updatePort p fun q =>
            { q with assembler := .hunt, slot := some f, counters := q.counters.bump .framesIn }) ∧
          ((s.port p).slot ≠ none → FrameLost heard t p .overrun))

/-- A gap limit passed in COLLECT ends the frame TRUNCATED; a start bit's edge stops that, and in HUNT no gap timer runs. That the limit has
passed is what the command says: log 1, log 2. That it waits for a start that may prove false: log 17. -/
def Obligations.GapLimitTruncatesTheFrame : Prop :=
  ∀ (s : State) (p : Port), s.Listens p →
    (∀ chars e n, (s.port p).assembler = .collect chars e n → (s.port p).receiver ≠ .reading →
      ∃ t : State, exec (.gapLimitExpiry p) s = .next t ∧ FrameLost s t p .truncated) ∧
    ((s.port p).assembler = .hunt ∨ (s.port p).receiver = .reading → exec (.gapLimitExpiry p) s = .next s) ∧
    exec (.characterReceived p .startEdge) s = .next (s.updatePort p fun q => { q with receiver := .reading })

/-- A waiting frame starts with the assembler in HUNT and the receiver not partway through a character, and the port is then deaf;
otherwise it waits on. While it is sent its characters follow back to back on the data pin, bit by bit; with the enable low the pin is at
mark. That the turnaround has passed is what the command says: log 1. The pins are computed: log 15. -/
def Obligations.AWaitingFrameStartsAndSendsItsBits : Prop :=
  (∀ (s : State) (p : Port) (f : FrameRecord),
    s.pins.resetN = true → s.NothingToTake p → (s.port p).tx = .waiting f →
    ((s.port p).assembler = .hunt ∧ (s.port p).receiver ≠ .reading →
      ∃ t : State, exec (.transmitStart p) s = .next t ∧
        t = (s.updatePort p fun q =>
          { q with tx := .sending f ((f.payload.length + 9) * q.live.charTime) }) ∧
        t.driverEnable p = true ∧ t.deaf p = true) ∧
    (¬ ((s.port p).assembler = .hunt ∧ (s.port p).receiver ≠ .reading) → exec (.transmitStart p) s = .next s)) ∧
  (∀ (s : State) (p : Port), s.driverEnable p = false → s.txLevel p = true) ∧
  ∀ (s : State) (p : Port) (f : FrameRecord) (left n bit : Nat) (b : Byte), (s.port p).tx = .sending f left →
    f.chars[n]? = some b →
    let st := (s.port p).live
    let bits := 10 + (if st.parity = .none then 0 else 1) + (st.stopBits - 1)
    let bitTime := 80 * st.divisor
    let gone := (f.payload.length + 9) * bits * bitTime - left
    1 ≤ st.stopBits → bit < bits → (n * bits + bit) * bitTime ≤ gone → gone < (n * bits + bit + 1) * bitTime →
    s.txLevel p =
      if bit = 0 then false
      else if bit ≤ 8 then b.getLsbD (bit - 1)
      else if bit = 9 ∧ st.parity ≠ .none then parityBit st.parity b
      else true

/-- The end of an answer's frame: FRAMES_OUT, the receiver listening in HUNT, the handler IDLE, and U settings live after their DONE, D
settings from then on when the line is free. The receiver's start under new D settings: log 12. -/
def Obligations.AnAnswerGoneBringsWhatItsMarkSays : Prop :=
  ∀ (s : State) (straps : Straps) (f : FrameRecord) (left : Nat),
    s.pins.resetN = true → s.u.tx = .sending f left →
    let sent : PortState :=
      { s.u with
        tx := .idle, receiver := s.u.receiver.abandon, assembler := .hunt, sinceLast := some 0
        counters := s.u.counters.bump .framesOut }
    let gone : State := { s with u := sent, handler := .idle }
    (s.handler = .answering .plain → exec (.frameSent .u straps) s = .next gone) ∧
    (s.handler = .answering .uSettings → exec (.frameSent .u straps) s = .next
      { gone with u := { sent with live := s.u.pendingCopy, pendingFlag := false } }) ∧
    (s.handler = .answering .dSettings →
      ∃ t : State, exec (.frameSent .u straps) s = .next t ∧ SettledOn { gone with dChangeDue := true } t)

/-- The end of a request's frame on D: an ASK or SET is awaited with the reply timer started; a NOTE's entry is FREE and the line IDLE. The
receiver's start under new D settings: log 12. -/
def Obligations.ARequestGoneIsAwaitedOrFreed : Prop :=
  ∀ (s : State) (straps : Straps) (f : FrameRecord) (left i addr : Nat) (x : Exchange),
    s.pins.resetN = true → s.d.tx = .sending f left → s.line = .sending i addr → s.entryAt i = some x →
    let gone : State :=
      { s with
        d := { s.d with
          tx := .idle, receiver := s.d.receiver.abandon, assembler := .hunt, sinceLast := some 0
          counters := s.d.counters.bump .framesOut } }
    (x.key.kind ≠ .note → exec (.frameSent .d straps) s = .next
      { gone with line := .awaiting i addr (s.timing.replyTimeout * 36864) }) ∧
    (x.key.kind = .note →
      ∃ t : State, exec (.frameSent .d straps) s = .next t ∧ SettledOn ((gone.withFreed i).withLine .idle) t)

/-- A frame that its owner can take is taken at once, so a later event on that port or timer meets the state the taking leaves; a window's
expiry is gone with it, as the frame's end closed that window. The model's reading of "at once": log 9. -/
def Obligations.AStoredFrameIsTakenFirst : Prop :=
  (∀ (s t : State) (f : FrameRecord), s.CanTake f → exec (takingOf s.mgmtAddr f).command s = .next t →
    (∀ e, exec (.characterReceived .u e) s = exec (.characterReceived .u e) t) ∧
    exec (.gapLimitExpiry .u) s = exec (.gapLimitExpiry .u) t ∧
    exec (.transmitStart .u) s = exec (.transmitStart .u) t ∧
    exec .discoveryWindowExpiry s = .next t) ∧
  ∀ (s t : State) (f : FrameRecord), s.pins.resetN = true → s.d.slot = some f →
    exec (if f.kind.isRequest then .foreignRequest else .dAnswerFrame) s = .next t →
    (∀ e, exec (.characterReceived .d e) s = exec (.characterReceived .d e) t) ∧
    exec (.gapLimitExpiry .d) s = exec (.gapLimitExpiry .d) t ∧
    exec (.transmitStart .d) s = exec (.transmitStart .d) t ∧ exec .selection s = exec .selection t ∧
    exec .replyTimeout s = exec .replyTimeout t

/-! ### Upstream requests (chapter 5) -/

/-- LOCAL, SCREENED and DOWNSTREAM stations: silence, ABSENT, match-or-admit. -/
def Obligations.TheSideDecidesTheAnswer : Prop :=
  ∀ (s : State) (f : FrameRecord), s.CanRequest f →
    ((s.stationAt f.addr).side = .localSide → exec .stationRequest s = .next s.metWithSilence) ∧
    ((s.stationAt f.addr).side = .screened →
      exec .stationRequest s = .next (s.answeredWith f .absent s.summary [] .plain)) ∧
    ((s.stationAt f.addr).side = .downstream →
      exec .stationRequest s =
        .next (State.matchOrAdmit f { s with u := { s.u with slot := none }, handler := .deciding f }))

/-- An UNKNOWN station with no live entry of the request's key: CLOSED is silence, a held alias is silence with ALIAS_CONFLICT, else a
window opens. An address with no record is met with silence: the model's choice, log 10. -/
def Obligations.AnUnknownStationIsJudgedInOrder : Prop :=
  (∀ (s : State) (f : FrameRecord), s.CanRequest f → (s.stationAt f.addr).side = .unknown → s.NoLiveEntry f →
    (s.policy = .closed → exec .stationRequest s = .next s.metWithSilence) ∧
    (s.policy = .opened → s.HeldByAnother f.addr f.addr →
      exec .stationRequest s = .next (s.raise .aliasConflict).metWithSilence) ∧
    (s.policy = .opened → ¬ s.HeldByAnother f.addr f.addr →
      exec .stationRequest s = .next
        { s with
          u := { s.u with slot := none }, handler := .window f (s.timing.window * s.u.live.charTime) })) ∧
  ∀ (s : State) (f : FrameRecord), s.CanTake f → f.addr ≠ s.mgmtAddr → isStation f.addr = false →
    (f.kind = .ask ∨ f.kind = .set → exec .stationRequest s = .next s.metWithSilence) ∧
    (f.kind.isRequest = false → s.handler = .idle → exec .uAnswerFrame s = .next s.metWithSilence)

/-- A repeat of a QUEUED, ON_LINE or FAR_WAIT entry's key is answered WAIT, or DONE by the entry's posted flag, and changes nothing. -/
def Obligations.ARepeatIsAnsweredWithoutChange : Prop :=
  ∀ (s : State) (c : Instr) (f : FrameRecord) (i : Nat) (x : Exchange),
    s.Judges c f → s.LiveKeysDistinct → s.entryAt i = some x → x.key = f.key →
    (x.phase = .queued ∨ x.phase = .onLine ∨ ∃ n, x.phase = .farWait n) →
    exec c s = .next (s.answeredWith f (if x.posted then .done else .wait) s.summary [] .plain)

/-- A repeat of a READY entry's key is given the outcome; the entry is FREE and DELIVERED counted. -/
def Obligations.AHeldOutcomeIsDeliveredOnce : Prop :=
  ∀ (s : State) (c : Instr) (f : FrameRecord) (i : Nat) (x : Exchange) (o : HeldOutcome) (n : Nat),
    s.Judges c f → s.LiveKeysDistinct → s.entryAt i = some x → x.key = f.key → x.phase = .ready o n →
    exec c s = .next
      (((s.withFreed i).withRecord f.addr
        { s.stationAt f.addr with counters := (s.stationAt f.addr).counters.bump .delivered }).answeredWith
          f o.kind (o.attn.getD s.summary) o.payload .plain)

/-- A new SET for a station without write permit is answered DENIED, posted or not, and changes nothing. -/
def Obligations.ANewWriteWithoutPermitIsDenied : Prop :=
  ∀ (s : State) (c : Instr) (f : FrameRecord), s.Judges c f → s.NoLiveEntry f → f.kind = .set →
    (s.stationAt f.addr).permit = false →
    exec c s = .next (s.answeredWith f .denied s.summary [] .plain)

/-- A new non-posted SET whose key is spent is answered STALE and its key leaves the Spent List; nothing else changes. -/
def Obligations.ASpentWriteIsAnsweredStaleOnce : Prop :=
  ∀ (s : State) (c : Instr) (f : FrameRecord), s.Judges c f → s.NoLiveEntry f → f.kind = .set →
    (s.stationAt f.addr).permit = true → f.posted = false → f.key ∈ s.spent →
    exec c s = .next
      (({ s with spent := s.spent.filter (· ≠ f.key) } : State).answeredWith f .stale s.summary [] .plain)

/-- A new request at the station's share, or with no FREE entry, is answered BUSY; BUSY_REFUSALS is counted, CAPACITY raised before the
answer is formed. -/
def Obligations.ARequestWithoutRoomIsAnsweredBusy : Prop :=
  ∀ (s : State) (c : Instr) (f : FrameRecord), s.Judges c f → s.TablesSized → s.NoLiveEntry f →
    (f.kind = .set → (s.stationAt f.addr).permit = true ∧ (f.posted = false → f.key ∉ s.spent)) →
    (s.timing.share ≤ s.liveCount f.addr ∨ s.TableFull) →
    let t := (s.withRecord f.addr
      { s.stationAt f.addr with
        counters := (s.stationAt f.addr).counters.bump .busyRefusals }).raise .capacity
    exec c s = .next (t.answeredWith f .busy t.summary [] .plain)

/-- A new request with room fills the lowest FREE entry at the tail of the order, its key leaves the Spent List, ADMITTED is counted, and it
is answered WAIT, or DONE for a posted SET. -/
def Obligations.AdmissionTakesTheLowestFreeEntry : Prop :=
  ∀ (s : State) (c : Instr) (f : FrameRecord) (i : Nat), s.Judges c f → s.TablesSized → s.NoLiveEntry f →
    (f.kind = .set → (s.stationAt f.addr).permit = true ∧ (f.posted = false → f.key ∉ s.spent)) →
    s.liveCount f.addr < s.timing.share → s.LowestFree i →
    let x : Exchange :=
      { phase := .queued, key := ⟨f.addr, f.kind, f.object, f.tag⟩, posted := f.kind == .set && f.posted
        discovery := (s.stationAt f.addr).side == .unknown, cls := (s.stationAt f.addr).cls
        payload := if f.kind = .ask then [] else f.payload, attempts := 0, reAsks := 0 }
    let t : State :=
      { (s.withEntry i (some x)).withRecord f.addr
          { s.stationAt f.addr with counters := (s.stationAt f.addr).counters.bump .admitted } with
        order := s.order ++ [i], spent := s.spent.filter (· ≠ f.key) }
    exec c s = .next
      (t.answeredWith f (if f.kind = .set ∧ f.posted = true then .done else .wait) s.summary [] .plain)

/-- A NOTE is dropped, taken as a repeat, admitted, or dropped with CAPACITY, and never answered. -/
def Obligations.ANoteIsForwardedOrDropped : Prop :=
  ∀ (s : State) (f : FrameRecord), s.CanTake f → f.kind = .note → s.TablesSized →
    (s.forwarding = false → exec .note s = .next s.metWithSilence) ∧
    (s.forwarding = true → (∃ i x, s.entryAt i = some x ∧ x.isLive = true ∧ x.key = f.key) →
      exec .note s = .next s.metWithSilence) ∧
    (∀ i, s.forwarding = true → s.NoLiveEntry f → s.LowestFree i →
      let x : Exchange :=
        { phase := .queued, key := ⟨f.addr, .note, f.object, f.tag⟩, posted := false, discovery := false, cls := 0
          payload := f.payload, attempts := 0, reAsks := 0 }
      exec .note s = .next
        ({ s.withEntry i (some x) with
          order := s.order ++ [i], spent := s.spent.filter (· ≠ f.key) } : State).metWithSilence) ∧
    (s.forwarding = true → s.NoLiveEntry f → s.TableFull →
      exec .note s = .next (s.raise .capacity).metWithSilence)

/-- An answer taken in IDLE under a DOWNSTREAM or SCREENED address is UNEXPECTED with ADDRESS_CLASH; any other is ignored. -/
def Obligations.AnAnswerOutsideAWindowIsClashChecked : Prop :=
  ∀ (s : State) (f : FrameRecord), s.CanTake f → s.handler = .idle → f.kind.isRequest = false →
    isStation f.addr = true →
    ((s.stationAt f.addr).side = .downstream ∨ (s.stationAt f.addr).side = .screened →
      exec .uAnswerFrame s = .next ((s.updatePort .u fun q =>
        { q with counters := q.counters.bump .unexpected }).raise .addressClash).metWithSilence) ∧
    ((s.stationAt f.addr).side ≠ .downstream → (s.stationAt f.addr).side ≠ .screened →
      exec .uAnswerFrame s = .next s.metWithSilence)

/-- What closes a discovery window: an answer from the station makes an UNKNOWN record LOCAL, flushes it and raises DISCOVERED; another
answer is ignored; a request is decided as in IDLE; an expiry in COLLECT waits. The receiver's start under new D settings: log 12. -/
def Obligations.AFrameClosesTheDiscoveryWindow : Prop :=
  ∀ (s : State) (g : FrameRecord) (τ : Nat), s.handler = .window g τ → s.pins.resetN = true →
    (∀ f, s.u.slot = some f → f.kind.isRequest = false → f.addr = g.addr → isStation f.addr = true →
      s.NoStartWhilePaused → (s.stationAt f.addr).side = .unknown →
      let s' : State :=
        (({ s with spent := s.spent.filter (fun k => k.addr ≠ f.addr) } : State).withRecord f.addr
          { s.stationAt f.addr with side := .localSide }).metWithSilence
      ∃ t : State, exec .uAnswerFrame s = .next (t.raise .discovered) ∧ Flushed s' t (·.belongsTo f.addr)) ∧
    (∀ f, s.u.slot = some f → f.kind.isRequest = false →
      f.addr ≠ g.addr ∨ (s.stationAt f.addr).side ≠ .unknown → exec .uAnswerFrame s = .next s.metWithSilence) ∧
    (∀ f, s.u.slot = some f → f.kind.isRequest = true →
      exec (takingOf s.mgmtAddr f).command s = exec (takingOf s.mgmtAddr f).command { s with handler := .idle }) ∧
    (s.u.slot = none → s.u.assembler ≠ .hunt →
      exec .discoveryWindowExpiry s = .next { s with handler := .window g 0 })

/-! ### Downstream dispatch (chapter 6) -/

/-- A selection picks, of the QUEUED entries of the highest effective class, the one nearest the head, and sends it; while a condition of
R115 fails none is made. -/
def Obligations.SelectionPicksTheHighestClassThenTheOldest : Prop :=
  ∀ s : State, s.d.slot = none →
    (∀ (i : Nat) (x : Exchange) (older younger : List Nat), s.pins.resetN = true → s.mode = .run → s.line = .idle →
      s.order = older ++ i :: younger → s.entryAt i = some x → x.phase = .queued →
      (∀ j y, j ∈ older → s.entryAt j = some y → y.phase = .queued → s.competesWith y < s.competesWith x) →
      (∀ j y, j ∈ younger → s.entryAt j = some y → y.phase = .queued → s.competesWith y ≤ s.competesWith x) →
      let addr := if x.key.kind = .note then 0 else (s.stationAt x.key.addr).aliasAddr
      let frame : FrameRecord :=
        { addr := addr, kind := x.key.kind, tag := x.key.tag, posted := x.key.kind == .set && x.posted, attn := 0
          object := x.key.object, payload := x.payload }
      exec .selection s = .next
        { s.withEntry i (some { x with phase := .onLine, attempts := x.attempts + 1 }) with
          d := { s.d with tx := .waiting frame }, line := .sending i addr }) ∧
    (s.mode ≠ .run ∨ s.line ≠ .idle ∨ (∀ i x, i ∈ s.order → s.entryAt i = some x → x.phase ≠ .queued) →
      exec .selection s = .next s)

/-- A request on D, and an answer that matches nothing on the line, count UNEXPECTED and raise D_LINE_ERROR; nothing else changes, but that
a reply timer which waited for the frame takes effect. -/
def Obligations.UnwantedFramesOnDOnlyCount : Prop :=
  ∀ (s : State) (f : FrameRecord), s.pins.resetN = true → s.d.slot = some f →
    (f.kind.isRequest = true ∨
      (f.kind.isRequest = false ∧ (s.line = .idle ∨ ∃ i a x, s.OnTheLine i a x ∧ ¬ Matches x a f))) →
    let c := if f.kind.isRequest then Instr.foreignRequest else .dAnswerFrame
    let counted := (s.updatePort .d fun q =>
      { q with slot := none, counters := q.counters.bump .unexpected }).raise .dLineError
    ((∀ i a, s.line ≠ .awaiting i a 0) → exec c s = .next counted) ∧
    (∀ i a x, s.line = .awaiting i a 0 → s.entryAt i = some x → s.d.assembler = .hunt →
      exec c s = exec .replyTimeout counted)

/-- A matching answer other than WAIT and BUSY settles the ON_LINE entry with its outcome, with no discovery to do: READY, or FREE for a
posted SET with LOST_WRITE unless DONE; a far SILENT is held without ATTN and not counted. The receiver's start under new D settings:
log 12. -/
def Obligations.AMatchingAnswerSettlesItsExchange : Prop :=
  ∀ (s : State) (f : FrameRecord) (i a : Nat) (x : Exchange), s.CanMatch f i a x → x.phase = .onLine →
    f.kind ≠ .wait → f.kind ≠ .busy →
    (x.discovery = false ∨ (f.kind ≠ .data ∧ f.kind ≠ .done ∧ f.kind ≠ .fault)) →
    let o : HeldOutcome := if f.kind = .silent then ⟨.silent, none, []⟩ else ⟨f.kind, some f.attn, f.payload⟩
    ∃ t : State, exec .dAnswerFrame s = .next t ∧ SettledOn ((s.answerTaken f x).settledWith i (x.lessWaiting s) o) t

/-- A discovery entry settled with DATA, DONE or FAULT makes an UNKNOWN station DOWNSTREAM with its own address as alias, raising
DISCOVERED, or leaves it and raises ALIAS_CONFLICT; it settles either way. The receiver's start under new D settings: log 12. -/
def Obligations.ADiscoveryAnswerTeachesDownstream : Prop :=
  ∀ (s : State) (f : FrameRecord) (i a : Nat) (x : Exchange), s.CanMatch f i a x → x.phase = .onLine →
    x.discovery = true → (f.kind = .data ∨ f.kind = .done ∨ f.kind = .fault) →
    let o : HeldOutcome := ⟨f.kind, some f.attn, f.payload⟩
    let b := x.key.addr
    let taken := s.answerTaken f x
    let learned :=
      (taken.withRecord b { taken.stationAt b with side := .downstream, aliasAddr := b }).raise .discovered
    ∃ t : State, exec .dAnswerFrame s = .next t ∧
      ((s.stationAt b).side = .unknown → ¬ s.HeldByAnother b b →
        SettledOn (learned.settledWith i (x.lessWaiting s) o) t) ∧
      ((s.stationAt b).side = .unknown → s.HeldByAnother b b →
        SettledOn ((taken.raise .aliasConflict).settledWith i (x.lessWaiting s) o) t) ∧
      ((s.stationAt b).side ≠ .unknown → SettledOn (taken.settledWith i (x.lessWaiting s) o) t)

/-- A matching far WAIT or BUSY puts an ON_LINE entry in FAR_WAIT with attempts 0 while re-asks are below the limit, else settles it SILENT;
a matching answer of any kind frees a WITHDRAWN entry. The receiver's start under new D settings: log 12. -/
def Obligations.FarWaitsAndWithdrawnEntriesHoldNoAnswer : Prop :=
  ∀ (s : State) (f : FrameRecord) (i a : Nat) (x : Exchange), s.CanMatch f i a x →
    ∃ t : State, exec .dAnswerFrame s = .next t ∧
      (x.phase = .onLine → (f.kind = .wait ∨ f.kind = .busy) → x.reAsks < s.timing.reAskLimit →
        SettledOn ((s.answerTaken f x).withEntry i (some
          { x with
            phase := .farWait (s.timing.reAskInterval * 36864), attempts := 0, reAsks := x.reAsks + 1 })) t) ∧
      (x.phase = .onLine → (f.kind = .wait ∨ f.kind = .busy) → s.timing.reAskLimit ≤ x.reAsks →
        SettledOn
          (((s.answerTaken f x).silenceCounted x.key.addr).settledWith i (x.lessWaiting s) ⟨.silent, none, []⟩) t) ∧
      (x.phase = .withdrawn → SettledOn ((s.answerTaken f x).withFreed i) t)

/-- A reply timeout counts TIMEOUTS and advances the ladder, then frees a WITHDRAWN entry, resends, goes back to QUEUED in PAUSED, or ends
SILENT at the attempt limit; in COLLECT it waits. The receiver's start under new D settings: log 12. -/
def Obligations.AReplyTimeoutRetriesOrEndsSilent : Prop :=
  ∀ (s : State) (i addr τ : Nat) (x : Exchange), s.pins.resetN = true → s.d.slot = none →
    s.line = .awaiting i addr τ → s.entryAt i = some x → isStation x.key.addr = true →
    let a := x.key.addr
    let level := if (s.stationAt a).level < 8 then (s.stationAt a).level + 1 else 8
    let limit := if level = 8 then 1 else s.timing.retryLimit + 1
    let counted := s.withLevel a level ((s.stationAt a).counters.bump .timeouts)
    (s.d.assembler ≠ .hunt → exec .replyTimeout s = .next (s.withLine (.awaiting i addr 0))) ∧
    (s.d.assembler = .hunt → ∃ t : State, exec .replyTimeout s = .next t ∧
      (x.phase = .withdrawn → SettledOn ((counted.withFreed i).withLine .idle) t) ∧
      (x.phase = .onLine → x.attempts < limit → s.mode = .run →
        t = { counted.withEntry i (some { x with attempts := x.attempts + 1 }) with
          d := { s.d with
            tx := .waiting
              { addr := addr, kind := x.key.kind, tag := x.key.tag, posted := x.key.kind == .set && x.posted
                attn := 0, object := x.key.object, payload := x.payload } }
          line := .sending i addr }) ∧
      (x.phase = .onLine → x.attempts < limit → s.mode ≠ .run →
        SettledOn ((counted.withEntry i (some { x with phase := .queued })).withLine .idle) t) ∧
      (x.phase = .onLine → limit ≤ x.attempts →
        SettledOn (((counted.silenceCounted a).settledWith i x ⟨.silent, none, []⟩).withLine .idle) t))

/-- A re-ask timer that runs out puts its entry back to QUEUED at its place; a pause timer that runs out gives RUN and PAUSE_ENDED. With no
such timer running nothing runs out: log 2. -/
def Obligations.ReAskAndPauseTimersRunOut : Prop :=
  ∀ s : State, s.pins.resetN = true →
    (∀ i x, s.entryAt i = some x →
      (∀ n, x.phase = .farWait n →
        exec (.reAskExpiry i) s = .next (s.withEntry i (some { x with phase := .queued }))) ∧
      ((∀ n, x.phase ≠ .farWait n) → exec (.reAskExpiry i) s = .next s)) ∧
    (∀ i, s.entryAt i = none → exec (.reAskExpiry i) s = .next s) ∧
    (∀ n, s.mode = .paused n → exec .pauseTimerExpiry s = .next (({ s with mode := .run } : State).raise .pauseEnded)) ∧
    (s.mode = .run → exec .pauseTimerExpiry s = .next s)

/-! ### The table's timers and the ladder (chapters 3, 7) -/

/-- A collection timer that runs out frees the READY entry, counts DISCARDS and raises DISCARDED; the key of a non-posted SET with outcome
DONE, and no other, joins the Spent List, from which a full list loses its oldest. -/
def Obligations.AnUncollectedOutcomeIsDiscarded : Prop :=
  ∀ (s : State) (i : Nat) (x : Exchange) (o : HeldOutcome) (n : Nat), s.pins.resetN = true →
    s.entryAt i = some x → x.phase = .ready o n → isStation x.key.addr = true →
    let r := ((s.withFreed i).withRecord x.key.addr
      { s.stationAt x.key.addr with
        counters := (s.stationAt x.key.addr).counters.bump .discards }).raise .discarded
    (x.key.kind = .set ∧ x.posted = false ∧ o.kind = .done →
      exec (.collectionExpiry i) s = .next
        { r with spent := (if s.spent.length < 4 then s.spent else s.spent.drop 1) ++ [x.key] }) ∧
    (¬ (x.key.kind = .set ∧ x.posted = false ∧ o.kind = .done) → exec (.collectionExpiry i) s = .next r)

/-- A step expiry advances every DOWNSTREAM record below level 8 by one, and no other record, raises STATION_QUIET when one reaches 8, and
starts the timer again. -/
def Obligations.TheLadderStepAdvancesDownstreamRecords : Prop :=
  ∀ (s : State) (n : Nat), s.TablesSized → s.pins.resetN = true → s.stepTimer = some n →
    ∃ t : State, exec .ladderStep s = .next t ∧
      t = { s with stations := t.stations, factors := t.factors, stepTimer := t.stepTimer } ∧
      (∀ a, isStation a = true → (s.stationAt a).side = .downstream → (s.stationAt a).level < 8 →
        t.stationAt a = { s.stationAt a with level := (s.stationAt a).level + 1 }) ∧
      (∀ a, isStation a = true → ¬ ((s.stationAt a).side = .downstream ∧ (s.stationAt a).level < 8) →
        t.stationAt a = s.stationAt a) ∧
      ((∃ a, isStation a = true ∧ (s.stationAt a).side = .downstream ∧ (s.stationAt a).level = 7) →
        t.factors = (s.raise .stationQuiet).factors) ∧
      ((∀ a, isStation a = true → (s.stationAt a).side = .downstream → (s.stationAt a).level ≠ 7) →
        t.factors = s.factors) ∧
      (s.timing.ladderStep = .ms250 → t.stepTimer = some (250 * 36864)) ∧
      (s.timing.ladderStep = .s1 → t.stepTimer = some (1000 * 36864)) ∧
      (s.timing.ladderStep = .s4 → t.stepTimer = some (4000 * 36864))

/-! ### Management (chapter 9) -/

/-- An unknown object, a kind the object does not answer to, a SET of a wrong length and a write to the SELF record are refused, in that
order, each with its reason and index 0. -/
def Obligations.RequestsAreRefusedForObjectKindAndLength : Prop :=
  (∀ (s : State) (f : FrameRecord) (kind : Kind) (n : Nat), s.CanManage f kind n → (kind = .ask ∨ kind = .set) →
    let known := n ∈ [0x0000, 0x0001, 0x0002, 0x0003, 0x0010, 0x0011, 0x0012, 0x0013, 0x0020, 0x0021, 0x0022, 0x0023,
      0x0400, 0x0401] ∨ (0x0101 ≤ n ∧ n ≤ 0x017E) ∨ (0x0201 ≤ n ∧ n ≤ 0x027E) ∨ (0x0301 ≤ n ∧ n ≤ 0x037E) ∨
      (0x0500 ≤ n ∧ n ≤ 0x0507)
    (¬ known → exec .managementRequest s = .next (s.refused f 1 0)) ∧
    (kind = .ask → n ∈ [0x0002, 0x0021, 0x0022, 0x0023] → exec .managementRequest s = .next (s.refused f 2 0)) ∧
    (kind = .set → n ∈ [0x0000, 0x0001, 0x0400, 0x0401] ∨ (0x0201 ≤ n ∧ n ≤ 0x027E) ∨ (0x0301 ≤ n ∧ n ≤ 0x037E) ∨
      (0x0500 ≤ n ∧ n ≤ 0x0507) → exec .managementRequest s = .next (s.refused f 2 0))) ∧
  (∀ (s : State) (f : FrameRecord) (c : Instr) (n len : Nat),
    (c, n, len) ∈ [(Instr.factorLevels, 0x0003, 11), (.uPort, 0x0010, 6), (.dPort, 0x0011, 6), (.timing, 0x0012, 8),
      (.policy, 0x0013, 2), (.pause, 0x0020, 2), (.flush, 0x0021, 1), (.clear, 0x0022, 0), (.restart, 0x0023, 0)] →
    s.CanManage f .set n → f.payload.length ≠ len → exec c s = .next (s.refused f 3 0)) ∧
  ∀ (s : State) (f : FrameRecord) (a : Nat), isStation a = true → s.CanManage f .set (0x0100 + a) →
    (f.payload.length ≠ 4 → exec .station s = .next (s.refused f 3 0)) ∧
    (f.payload.length = 4 → a = s.mgmtAddr → exec .station s = .next (s.refused f 5 0))

/-- A SET of the right length with a value out of its range is refused BAD_VALUE with the index of the first such field. -/
def Obligations.TheFirstBadFieldIsNamed : Prop :=
  ∀ (s : State) (f : FrameRecord) (k : Nat),
    (s.CanManage f .set 0x0012 → f.payload.length = 8 → FirstOutside (byteValues f.payload) timingRanges k →
      exec .timing s = .next (s.refused f 4 k)) ∧
    (s.CanManage f .set 0x0010 → f.payload.length = 6 → FirstOutside (portValues f.payload) portRanges k →
      exec .uPort s = .next (s.refused f 4 k)) ∧
    (s.CanManage f .set 0x0011 → f.payload.length = 6 → FirstOutside (portValues f.payload) portRanges k →
      exec .dPort s = .next (s.refused f 4 k)) ∧
    (s.CanManage f .set 0x0021 → f.payload.length = 1 → FirstOutside (byteValues f.payload) [(1, 126)] k →
      exec .flush s = .next (s.refused f 4 k)) ∧
    ∀ a, isStation a = true → a ≠ s.mgmtAddr → s.CanManage f .set (0x0100 + a) → f.payload.length = 4 →
      let side := byteAt f.payload 0
      let written := byteAt f.payload 1
      let aliasBad := side ≠ 0 ∧ (¬ (1 ≤ written ∧ written ≤ 126) ∨ (2 ≤ side ∧ s.HeldByAnother a written))
      (3 < side → exec .station s = .next (s.refused f 4 1)) ∧
      (side ≤ 3 → aliasBad → exec .station s = .next (s.refused f 4 2)) ∧
      (side ≤ 3 → ¬ aliasBad → 3 < byteAt f.payload 2 → exec .station s = .next (s.refused f 4 3)) ∧
      (side ≤ 3 → ¬ aliasBad → byteAt f.payload 2 ≤ 3 → 1 < byteAt f.payload 3 →
        exec .station s = .next (s.refused f 4 4))

/-- An accepted TIMING writes all eight values before its DONE; only a changed step starts or stops the step timer. -/
def Obligations.TimingIsWrittenWhole : Prop :=
  ∀ (s : State) (f : FrameRecord), s.CanManage f .set 0x0012 → f.payload.length = 8 →
    AllInside (byteValues f.payload) timingRanges →
    let stepIs (l : LadderStep) := byteAt f.payload 7 = l.code
    ∃ t : State, exec .timing s = .next (t.managed f .done [] .plain) ∧
      t = { s with timing := t.timing, stepTimer := t.stepTimer } ∧
      t.timing = ⟨byteAt f.payload 0, byteAt f.payload 1, byteAt f.payload 2, byteAt f.payload 3, byteAt f.payload 4,
        byteAt f.payload 5, byteAt f.payload 6, t.timing.ladderStep⟩ ∧
      t.timing.ladderStep.code = byteAt f.payload 7 ∧
      (stepIs s.timing.ladderStep → t.stepTimer = s.stepTimer) ∧
      (¬ stepIs s.timing.ladderStep →
        (stepIs .off → t.stepTimer = none) ∧ (stepIs .ms250 → t.stepTimer = some (250 * 36864)) ∧
        (stepIs .s1 → t.stepTimer = some (1000 * 36864)) ∧ (stepIs .s4 → t.stepTimer = some (4000 * 36864)))

/-- POLICY: what a SET writes and refuses, what an ASK reads, and what a reset and a full restart leave. -/
def Obligations.PolicyCarriesDiscoveryAndForwarding : Prop :=
  (∀ (s : State) (f : FrameRecord), s.CanManage f .set 0x0013 → f.payload.length = 2 →
    let b0 := byteAt f.payload 0
    let b1 := byteAt f.payload 1
    (b0 ≤ 1 → b1 ≤ 1 → exec .policy s = .next
      (({ s with
        policy := if b0 = 1 then .opened else .closed, forwarding := decide (b1 = 1) } : State).managed
          f .done [] .plain)) ∧
    (1 < b0 → exec .policy s = .next (s.refused f 4 1)) ∧
    (b0 ≤ 1 → 1 < b1 → exec .policy s = .next (s.refused f 4 2))) ∧
  (∀ (s : State) (f : FrameRecord), s.CanManage f .ask 0x0013 →
    exec .managementRequest s = .next (s.managed f .data
      [if s.policy = .opened then 1 else 0, if s.forwarding then 1 else 0] .plain)) ∧
  (∀ (s : State) (straps : Straps), ∃ t : State, exec (.resetEnd straps) s = .next t ∧
    t.policy = (if straps.disc then .opened else .closed) ∧ t.forwarding = true) ∧
  ∀ (s : State) (straps : Straps) (f : FrameRecord) (left : Nat),
    s.pins.resetN = true → s.u.tx = .sending f left → s.handler = .answering .restart →
    ∃ t : State, exec (.frameSent .u straps) s = .next t ∧
      t.policy = (if straps.disc then .opened else .closed) ∧ t.forwarding = true

/-- U_PORT and D_PORT write the pending copy and set its flag, RESTART only marks its DONE: what each brings comes later. New D values wait
for the end of their own DONE. -/
def Obligations.PortSettingsAndRestartWaitForTheirDone : Prop :=
  ∀ (s : State) (f : FrameRecord),
    let written (q : PortState) : Prop :=
      AllInside (portValues f.payload) portRanges ∧
        q.pendingCopy.divisor = 256 * byteAt f.payload 0 + byteAt f.payload 1 ∧
        q.pendingCopy.parity.code = byteAt f.payload 2 ∧ q.pendingCopy.stopBits = byteAt f.payload 3 ∧
        q.pendingCopy.turnaround = byteAt f.payload 4 ∧ q.pendingCopy.gapLimit = byteAt f.payload 5
    (s.CanManage f .set 0x0010 → f.payload.length = 6 → AllInside (portValues f.payload) portRanges →
      ∃ q, q = { s.u with pendingCopy := q.pendingCopy, pendingFlag := true } ∧ written q ∧
        exec .uPort s = .next (({ s with u := q } : State).managed f .done [] .uSettings)) ∧
    (s.CanManage f .set 0x0011 → f.payload.length = 6 → AllInside (portValues f.payload) portRanges →
      ∃ q, q = { s.d with pendingCopy := q.pendingCopy, pendingFlag := true } ∧ written q ∧
        exec .dPort s = .next (({ s with d := q, dChangeDue := false } : State).managed f .done [] .dSettings)) ∧
    (s.CanManage f .set 0x0023 → f.payload = [] → exec .restart s = .next (s.managed f .done [] .restart))

/-- FACTOR_LEVELS writes all eleven levels before its DONE, or names the first out of range and writes none. -/
def Obligations.FactorLevelsAreWrittenTogether : Prop :=
  ∀ (s : State) (f : FrameRecord), s.CanManage f .set 0x0003 → f.payload.length = 11 → s.TablesSized →
    ((∀ b ∈ f.payload, b.toNat ≤ 3) → ∃ t : State, exec .factorLevels s = .next (t.managed f .done [] .plain) ∧
      t = { s with factors := t.factors } ∧
      ∀ c, 1 ≤ c → c ≤ 11 → t.factorAt c = { s.factorAt c with level := byteAt f.payload (c - 1) }) ∧
    ∀ k, FirstOutside (byteValues f.payload) (List.replicate 11 (0, 3)) k →
      exec .factorLevels s = .next (s.refused f 4 k)

/-- FACTOR_ACK clears the listed factors before its DONE and keeps the rest and every level, or names the first code that is none and clears
nothing. -/
def Obligations.ListedFactorsAreAcknowledged : Prop :=
  ∀ (s : State) (f : FrameRecord), s.CanManage f .set 0x0002 → f.payload.length ≤ 64 → s.TablesSized →
    ((∀ b ∈ f.payload, 1 ≤ b.toNat ∧ b.toNat ≤ 11) →
      ∃ t : State, exec .factorAck s = .next (t.managed f .done [] .plain) ∧ t = { s with factors := t.factors } ∧
        ∀ c, 1 ≤ c → c ≤ 11 →
          (c ∈ byteValues f.payload → t.factorAt c = { s.factorAt c with pending := false }) ∧
          (c ∉ byteValues f.payload → t.factorAt c = s.factorAt c)) ∧
    ∀ k, FirstOutside (byteValues f.payload) (List.replicate f.payload.length (1, 11)) k →
      exec .factorAck s = .next (s.refused f 4 k)

/-- PAUSE with 0 gives RUN with no factor; with d above 0 the pause timer starts at d steps and a frame that waits on D is withdrawn, its
entry back to QUEUED with one attempt less. The receiver's start under new D settings: log 12. -/
def Obligations.APauseWithdrawsAWaitingFrame : Prop :=
  ∀ (s : State) (f : FrameRecord), s.CanManage f .set 0x0020 → f.payload.length = 2 →
    let d := 256 * byteAt f.payload 0 + byteAt f.payload 1
    let paused : State := { s with mode := .paused (d * 368640) }
    let withdraws (i : Nat) (x : Exchange) : Prop :=
      (∃ a, s.line = .sending i a) ∧ s.entryAt i = some x ∧ x.phase = .onLine ∧ s.d.tx.isWaiting = true
    (d = 0 → exec .pause s = .next (({ s with mode := .run } : State).managed f .done [] .plain)) ∧
    (d ≠ 0 → (∀ i x, ¬ withdraws i x) → exec .pause s = .next (paused.managed f .done [] .plain)) ∧
    ∀ i x, d ≠ 0 → withdraws i x → ∃ t : State, exec .pause s = .next (t.managed f .done [] .plain) ∧
      SettledOn
        { paused.withEntry i (some { x with phase := .queued, attempts := x.attempts - 1 }) with
          d := { s.d with tx := .idle }, line := .idle } t

/-- FLUSH frees or withdraws one station's exchanges and removes its spent keys; CLEAR does so for all, and gives RUN with no factor. What a
clear does to a frame that waits on D, on which the rules differ: log 18. The receiver's start under new D settings: log 12. -/
def Obligations.FlushAndClearEndExchanges : Prop :=
  ∀ (s : State) (f : FrameRecord), s.NoStartWhilePaused →
    (s.CanManage f .set 0x0021 → f.payload.length = 1 → isStation (byteAt f.payload 0) = true →
      ∃ t : State, exec .flush s = .next (t.managed f .done [] .plain) ∧
        Flushed { s with spent := s.spent.filter (fun k => k.addr ≠ byteAt f.payload 0) } t
          (·.belongsTo (byteAt f.payload 0))) ∧
    (s.CanManage f .set 0x0022 → f.payload = [] →
      ∃ t : State, exec .clear s = .next (t.managed f .done [] .plain) ∧
        Flushed { s with spent := [], mode := .run } t (fun _ => true))

/-- An accepted STATION write stores side, alias, class and permit, sets the ladder to 1 for DOWNSTREAM and keeps the counters; if side or
alias changes it flushes the station in the same event. The receiver's start under new D settings: log 12. -/
def Obligations.AStationWriteIsStored : Prop :=
  ∀ (s : State) (f : FrameRecord) (a : Nat) (side : Side), s.NoStartWhilePaused → isStation a = true →
    a ≠ s.mgmtAddr → s.CanManage f .set (0x0100 + a) → f.payload.length = 4 → side ≠ .self →
    byteAt f.payload 0 = side.code → byteAt f.payload 2 ≤ 3 → byteAt f.payload 3 ≤ 1 →
    (side ≠ .unknown → 1 ≤ byteAt f.payload 1 ∧ byteAt f.payload 1 ≤ 126) →
    (side = .downstream ∨ side = .screened → ¬ s.HeldByAnother a (byteAt f.payload 1)) →
    let before := s.stationAt a
    let after : StationRecord :=
      { side := side, aliasAddr := if side = .unknown then a else byteAt f.payload 1, cls := byteAt f.payload 2
        permit := decide (byteAt f.payload 3 = 1), level := if side = .downstream then 1 else before.level
        counters := before.counters }
    (after.side = before.side ∧ after.aliasAddr = before.aliasAddr →
      exec .station s = .next ((s.withRecord a after).managed f .done [] .plain)) ∧
    (¬ (after.side = before.side ∧ after.aliasAddr = before.aliasAddr) →
      ∃ t : State, exec .station s = .next (t.managed f .done [] .plain) ∧
        Flushed { s.withRecord a after with spent := s.spent.filter (fun k => k.addr ≠ a) } t (·.belongsTo a))

/-- A read-and-clear answers the counters, clears them and stores the answer; a matching repeat is answered from the store, clears nothing
and keeps it. -/
def Obligations.ReadAndClearIsRepeatedFromItsMemory : Prop :=
  ∀ (s : State) (f : FrameRecord),
    let isRepeat := ∃ m, s.memory = some m ∧ m.object = f.object ∧ m.tag = f.tag
    let kept (payload : List Byte) (r : State) : State :=
      ({ r with memory := some ⟨f.object, f.tag, payload⟩ } : State).answeredWith f .data s.summary payload .plain
    (∀ (c : Instr) (m : StoredAnswer),
      (c = .countersReadClear ∧ ∃ a, isStation a = true ∧ s.CanManage f .ask (0x0300 + a)) ∨
        (c = .portCountersReadClear ∧ s.CanManage f .ask 0x0401) →
      s.memory = some m → m.object = f.object → m.tag = f.tag →
      exec c s = .next (s.answeredWith f .data s.summary m.payload .plain)) ∧
    (∀ a, isStation a = true → s.CanManage f .ask (0x0300 + a) → ¬ isRepeat →
      let k := (s.stationAt a).counters
      exec .countersReadClear s = .next (kept
        (twoBytes k.admitted ++ twoBytes k.delivered ++ twoBytes k.timeouts ++ twoBytes k.silentOutcomes ++
          twoBytes k.discards ++ twoBytes k.lostWrites ++ twoBytes k.busyRefusals)
        (s.withRecord a { s.stationAt a with counters := ⟨0, 0, 0, 0, 0, 0, 0⟩ }))) ∧
    (s.CanManage f .ask 0x0401 → ¬ isRepeat →
      let bytes (k : PortCounters) :=
        twoBytes k.framesIn ++ twoBytes k.framesOut ++ twoBytes k.checkErr ++ twoBytes k.parityErr ++
          twoBytes k.framingErr ++ twoBytes k.truncated ++ twoBytes k.oversize ++ twoBytes k.overrun ++
          twoBytes k.stray ++ twoBytes k.malformed ++ twoBytes k.unexpected
      exec .portCountersReadClear s = .next (kept (bytes s.u.counters ++ bytes s.d.counters)
        { s with
          u := { s.u with counters := ⟨0, 0, 0, 0, 0, 0, 0, 0, 0, 0, 0⟩ }
          d := { s.d with counters := ⟨0, 0, 0, 0, 0, 0, 0, 0, 0, 0, 0⟩ } }))

/-- An ASK of an object that answers to it, the read-and-clears 0300h + s and 0401h apart, is answered DATA in its layout and changes nothing
but the memory of a read-and-clear, which it empties. Timers show whole units, rounded up, at least 1 while they run (log 13). -/
def Obligations.PlainReadsAnswerInTheirLayoutAndChangeNothing : Prop :=
  ∀ (s : State) (f : FrameRecord),
    let reads (n : Nat) (payload : List Byte) : Prop :=
      s.CanManage f .ask n → exec .managementRequest s = .next (s.managed f .data payload .plain)
    let byte (n : Nat) : Byte := BitVec.ofNat 8 n
    let flag (b : Bool) : Byte := if b then 1 else 0
    let left := match s.mode with | .run => 0 | .paused t => max 1 ((t + 368639) / 368640)
    let inState (p : Exchange → Bool) := (s.entries.filter (fun e => e.any p)).length
    let settings (st : Settings) :=
      twoBytes st.divisor ++ [byte st.parity.code, byte st.stopBits, byte st.turnaround, byte st.gapLimit]
    let port (q : PortState) :=
      settings q.live ++ [flag q.pendingFlag] ++ settings (if q.pendingFlag then q.pendingCopy else q.live)
    let paused := decide (s.mode ≠ .run)
    reads 0x0000 [0x7C, 0x31, 0x02, 0x64, 0x03, 126, 8, 4, 64] ∧
    reads 0x0001
      ([byte s.summary.toNat, flag paused] ++ twoBytes left ++
        [byte (s.entries.filter (·.isNone)).length, byte (inState fun x => x.phase == .queued),
          byte (inState fun x => x.phase == .onLine),
          byte (inState fun x => match x.phase with | .farWait _ => true | _ => false),
          byte (inState fun x => match x.phase with | .ready _ _ => true | _ => false),
          byte (inState fun x => x.phase == .withdrawn)] ++
        [byte s.mgmtAddr, flag (s.policy == .opened), flag s.forwarding, byte s.pendingCodes.length] ++
        s.pendingCodes.map byte) ∧
    s.pendingCodes = (List.range' 1 11).filter (fun c => (s.factorAt c).pending) ∧
    reads 0x0003 (s.factors.map fun x => byte x.level) ∧
    reads 0x0010 (port s.u) ∧ reads 0x0011 (port s.d) ∧
    reads 0x0012
      [byte s.timing.replyTimeout, byte s.timing.retryLimit, byte s.timing.reAskInterval, byte s.timing.reAskLimit,
        byte s.timing.collectionTime, byte s.timing.window, byte s.timing.share, byte s.timing.ladderStep.code] ∧
    reads 0x0013 [flag (s.policy == .opened), flag s.forwarding] ∧
    reads 0x0020 (flag paused :: twoBytes left) ∧
    (∀ a, isStation a = true →
      let r := s.stationAt a
      reads (0x0100 + a) [byte r.side.code, byte r.aliasAddr, byte r.cls, flag r.permit, byte r.level] ∧
      reads (0x0200 + a) r.counters.toPayload) ∧
    reads 0x0400 (s.u.counters.toPayload ++ s.d.counters.toPayload) ∧
    (∀ i, i < 8 → s.entryAt i = none → reads (0x0500 + i) (List.replicate 15 0)) ∧
    ∀ i x, i < 8 → s.entryAt i = some x →
      let code (q : Nat) (timer : Nat) (kind : Byte) : List Byte :=
        [byte q, byte x.key.addr, x.key.kind.code] ++ twoBytes x.key.object.toNat ++
          [byte x.key.tag.toNat, flag x.posted, flag x.discovery, byte x.cls,
            byte (if i ∈ s.order then s.order.idxOf i + 1 else 0), byte x.attempts, byte x.reAsks] ++
          twoBytes timer ++ [kind]
      (x.phase = .queued → reads (0x0500 + i) (code 1 0 0)) ∧
      (x.phase = .onLine → reads (0x0500 + i) (code 2 0 0)) ∧
      (∀ t, x.phase = .farWait t → reads (0x0500 + i) (code 3 (max 1 ((t + 36863) / 36864)) 0)) ∧
      (∀ o t, x.phase = .ready o t → reads (0x0500 + i) (code 4 (max 1 ((t + 36863) / 36864)) o.kind.code)) ∧
      (x.phase = .withdrawn → reads (0x0500 + i) (code 5 0 0))

/-! ### Conditions that every step keeps -/

/-- The Station Table: 126 records, one SELF record as the reset left it, an UNKNOWN record's alias its own, and no alias held twice. -/
def Obligations.EveryStepKeepsTheStationTable : Prop :=
  ∀ s t : State,
    (s.TablesSized ∧ s.OneSelf ∧ s.SelfUntouched ∧ s.SelfAsReset ∧ s.UnknownAliasOwn ∧ s.AliasesDistinct) →
    step s = .next t →
    t.TablesSized ∧ t.OneSelf ∧ t.SelfUntouched ∧ t.SelfAsReset ∧ t.UnknownAliasOwn ∧ t.AliasesDistinct

/-- Levels, counters, factor levels, settings, attempts and re-asks stay in their ranges. -/
def Obligations.EveryStepKeepsTheRanges : Prop :=
  ∀ s t : State,
    (s.LevelsInRange ∧ s.CountersInRange ∧ s.FactorLevelsInRange ∧ s.SettingsInRange ∧ s.AttemptsInRange) →
    step s = .next t →
    t.LevelsInRange ∧ t.CountersInRange ∧ t.FactorLevelsInRange ∧ t.SettingsInRange ∧ t.AttemptsInRange

/-- The order list holds exactly the entries with work to do, the entry on the line is the one that is ON_LINE or WITHDRAWN, the D transmitter
holds a frame only while SENDING, and none waits there in PAUSED. -/
def Obligations.EveryStepKeepsTheDownstreamLine : Prop :=
  ∀ s t : State, (s.OrderExact ∧ s.LineExact ∧ s.DPortExact ∧ s.NoStartWhilePaused) → step s = .next t →
    t.OrderExact ∧ t.LineExact ∧ t.DPortExact ∧ t.NoStartWhilePaused

/-- No two live entries hold one key; the Spent List holds at most four keys of SETs, none twice and none of a live entry; every live entry of
a station belongs to a DOWNSTREAM or UNKNOWN one. -/
def Obligations.EveryStepKeepsLiveExchangesDistinct : Prop :=
  ∀ s t : State, (s.LiveKeysDistinct ∧ s.SpentExact ∧ s.LiveStationsReachable) → step s = .next t →
    t.LiveKeysDistinct ∧ t.SpentExact ∧ t.LiveStationsReachable

/-- While RESET_N is high, the U transmitter holds a frame exactly while the handler is ANSWERING. -/
def Obligations.EveryStepKeepsTheAnswerWithItsHandler : Prop :=
  ∀ s t : State, s.AnsweringExact → step s = .next t → t.AnsweringExact

/-- Every frame that is stored or sent is well formed. -/
def Obligations.EveryFrameStoredOrSentIsWellFormed : Prop :=
  ∀ s t : State, (s.FramesSound ∧ s.LineExact ∧ s.TablesSized) → step s = .next t →
    t.FramesSound ∧ t.LineExact ∧ t.TablesSized

/-- The machine right after reset meets every one of these conditions. -/
def Obligations.ResetMeetsEveryCondition : Prop :=
  let s := State.reset
  s.TablesSized ∧ s.OneSelf ∧ s.SelfUntouched ∧ s.SelfAsReset ∧ s.UnknownAliasOwn ∧ s.AliasesDistinct ∧
    s.LevelsInRange ∧ s.CountersInRange ∧ s.FactorLevelsInRange ∧ s.SettingsInRange ∧ s.AttemptsInRange ∧
    s.OrderExact ∧ s.LineExact ∧ s.DPortExact ∧ s.NoStartWhilePaused ∧ s.LiveKeysDistinct ∧ s.SpentExact ∧
    s.LiveStationsReachable ∧ s.AnsweringExact ∧ s.FramesSound

end
end

