-- ==== Sys2Proof/Laws/State.lean ====
section
/-! SUPPORT. One lemma per field and update: what an operation on the state leaves unchanged, so that no later proof unfolds
a record update. -/

namespace Sys2Proof.Machine

/-! `updatePort`: one port changes (chapter 2). -/

@[simp] theorem State.updatePort_pins (p : Port) (g : PortState → PortState) (s : State) : (s.updatePort p g).pins = s.pins := by
  cases p <;> rfl
@[simp] theorem State.updatePort_dChangeDue (p : Port) (g : PortState → PortState) (s : State) : (s.updatePort p g).dChangeDue = s.dChangeDue := by
  cases p <;> rfl
@[simp] theorem State.updatePort_restartDeaf (p : Port) (g : PortState → PortState) (s : State) : (s.updatePort p g).restartDeaf = s.restartDeaf := by
  cases p <;> rfl
@[simp] theorem State.updatePort_entries (p : Port) (g : PortState → PortState) (s : State) : (s.updatePort p g).entries = s.entries := by
  cases p <;> rfl
@[simp] theorem State.updatePort_order (p : Port) (g : PortState → PortState) (s : State) : (s.updatePort p g).order = s.order := by
  cases p <;> rfl
@[simp] theorem State.updatePort_spent (p : Port) (g : PortState → PortState) (s : State) : (s.updatePort p g).spent = s.spent := by
  cases p <;> rfl
@[simp] theorem State.updatePort_timing (p : Port) (g : PortState → PortState) (s : State) : (s.updatePort p g).timing = s.timing := by
  cases p <;> rfl
@[simp] theorem State.updatePort_stations (p : Port) (g : PortState → PortState) (s : State) : (s.updatePort p g).stations = s.stations := by
  cases p <;> rfl
@[simp] theorem State.updatePort_mgmtAddr (p : Port) (g : PortState → PortState) (s : State) : (s.updatePort p g).mgmtAddr = s.mgmtAddr := by
  cases p <;> rfl
@[simp] theorem State.updatePort_stepTimer (p : Port) (g : PortState → PortState) (s : State) : (s.updatePort p g).stepTimer = s.stepTimer := by
  cases p <;> rfl
@[simp] theorem State.updatePort_handler (p : Port) (g : PortState → PortState) (s : State) : (s.updatePort p g).handler = s.handler := by
  cases p <;> rfl
@[simp] theorem State.updatePort_policy (p : Port) (g : PortState → PortState) (s : State) : (s.updatePort p g).policy = s.policy := by
  cases p <;> rfl
@[simp] theorem State.updatePort_forwarding (p : Port) (g : PortState → PortState) (s : State) : (s.updatePort p g).forwarding = s.forwarding := by
  cases p <;> rfl
@[simp] theorem State.updatePort_mode (p : Port) (g : PortState → PortState) (s : State) : (s.updatePort p g).mode = s.mode := by
  cases p <;> rfl
@[simp] theorem State.updatePort_line (p : Port) (g : PortState → PortState) (s : State) : (s.updatePort p g).line = s.line := by
  cases p <;> rfl
@[simp] theorem State.updatePort_factors (p : Port) (g : PortState → PortState) (s : State) : (s.updatePort p g).factors = s.factors := by
  cases p <;> rfl
@[simp] theorem State.updatePort_memory (p : Port) (g : PortState → PortState) (s : State) : (s.updatePort p g).memory = s.memory := by
  cases p <;> rfl
@[simp] theorem State.updatePort_pending (p : Port) (g : PortState → PortState) (s : State) : (s.updatePort p g).pending = s.pending := by
  cases p <;> rfl
@[simp] theorem State.updatePort_u_u (g : PortState → PortState) (s : State) : (s.updatePort .u g).u = g s.u := rfl
@[simp] theorem State.updatePort_u_d (g : PortState → PortState) (s : State) : (s.updatePort .u g).d = s.d := rfl
@[simp] theorem State.updatePort_d_u (g : PortState → PortState) (s : State) : (s.updatePort .d g).u = s.u := rfl
@[simp] theorem State.updatePort_d_d (g : PortState → PortState) (s : State) : (s.updatePort .d g).d = g s.d := rfl
@[simp] theorem State.port_u (s : State) : s.port .u = s.u := rfl
@[simp] theorem State.port_d (s : State) : s.port .d = s.d := rfl
@[simp] theorem State.port_updatePort (p : Port) (g : PortState → PortState) (s : State) :
    (s.updatePort p g).port p = g (s.port p) := by cases p <;> rfl

/-! `updateStation`: one record changes (chapter 4). -/

@[simp] theorem State.updateStation_pins (a : Nat) (g : StationRecord → StationRecord) (s : State) :
    (s.updateStation a g).pins = s.pins := by unfold State.updateStation; split <;> rfl
@[simp] theorem State.updateStation_u (a : Nat) (g : StationRecord → StationRecord) (s : State) :
    (s.updateStation a g).u = s.u := by unfold State.updateStation; split <;> rfl
@[simp] theorem State.updateStation_d (a : Nat) (g : StationRecord → StationRecord) (s : State) :
    (s.updateStation a g).d = s.d := by unfold State.updateStation; split <;> rfl
@[simp] theorem State.updateStation_dChangeDue (a : Nat) (g : StationRecord → StationRecord) (s : State) :
    (s.updateStation a g).dChangeDue = s.dChangeDue := by unfold State.updateStation; split <;> rfl
@[simp] theorem State.updateStation_restartDeaf (a : Nat) (g : StationRecord → StationRecord) (s : State) :
    (s.updateStation a g).restartDeaf = s.restartDeaf := by unfold State.updateStation; split <;> rfl
@[simp] theorem State.updateStation_entries (a : Nat) (g : StationRecord → StationRecord) (s : State) :
    (s.updateStation a g).entries = s.entries := by unfold State.updateStation; split <;> rfl
@[simp] theorem State.updateStation_order (a : Nat) (g : StationRecord → StationRecord) (s : State) :
    (s.updateStation a g).order = s.order := by unfold State.updateStation; split <;> rfl
@[simp] theorem State.updateStation_spent (a : Nat) (g : StationRecord → StationRecord) (s : State) :
    (s.updateStation a g).spent = s.spent := by unfold State.updateStation; split <;> rfl
@[simp] theorem State.updateStation_timing (a : Nat) (g : StationRecord → StationRecord) (s : State) :
    (s.updateStation a g).timing = s.timing := by unfold State.updateStation; split <;> rfl
@[simp] theorem State.updateStation_mgmtAddr (a : Nat) (g : StationRecord → StationRecord) (s : State) :
    (s.updateStation a g).mgmtAddr = s.mgmtAddr := by unfold State.updateStation; split <;> rfl
@[simp] theorem State.updateStation_stepTimer (a : Nat) (g : StationRecord → StationRecord) (s : State) :
    (s.updateStation a g).stepTimer = s.stepTimer := by unfold State.updateStation; split <;> rfl
@[simp] theorem State.updateStation_handler (a : Nat) (g : StationRecord → StationRecord) (s : State) :
    (s.updateStation a g).handler = s.handler := by unfold State.updateStation; split <;> rfl
@[simp] theorem State.updateStation_policy (a : Nat) (g : StationRecord → StationRecord) (s : State) :
    (s.updateStation a g).policy = s.policy := by unfold State.updateStation; split <;> rfl
@[simp] theorem State.updateStation_forwarding (a : Nat) (g : StationRecord → StationRecord) (s : State) :
    (s.updateStation a g).forwarding = s.forwarding := by unfold State.updateStation; split <;> rfl
@[simp] theorem State.updateStation_mode (a : Nat) (g : StationRecord → StationRecord) (s : State) :
    (s.updateStation a g).mode = s.mode := by unfold State.updateStation; split <;> rfl
@[simp] theorem State.updateStation_line (a : Nat) (g : StationRecord → StationRecord) (s : State) :
    (s.updateStation a g).line = s.line := by unfold State.updateStation; split <;> rfl
@[simp] theorem State.updateStation_factors (a : Nat) (g : StationRecord → StationRecord) (s : State) :
    (s.updateStation a g).factors = s.factors := by unfold State.updateStation; split <;> rfl
@[simp] theorem State.updateStation_memory (a : Nat) (g : StationRecord → StationRecord) (s : State) :
    (s.updateStation a g).memory = s.memory := by unfold State.updateStation; split <;> rfl
@[simp] theorem State.updateStation_pending (a : Nat) (g : StationRecord → StationRecord) (s : State) :
    (s.updateStation a g).pending = s.pending := by unfold State.updateStation; split <;> rfl

/-! `silence`: R89 -/

@[simp] theorem State.silence_pins (s : State) : (s.silence).pins = s.pins := rfl
@[simp] theorem State.silence_u (s : State) : (s.silence).u = s.u := rfl
@[simp] theorem State.silence_d (s : State) : (s.silence).d = s.d := rfl
@[simp] theorem State.silence_dChangeDue (s : State) : (s.silence).dChangeDue = s.dChangeDue := rfl
@[simp] theorem State.silence_restartDeaf (s : State) : (s.silence).restartDeaf = s.restartDeaf := rfl
@[simp] theorem State.silence_entries (s : State) : (s.silence).entries = s.entries := rfl
@[simp] theorem State.silence_order (s : State) : (s.silence).order = s.order := rfl
@[simp] theorem State.silence_spent (s : State) : (s.silence).spent = s.spent := rfl
@[simp] theorem State.silence_timing (s : State) : (s.silence).timing = s.timing := rfl
@[simp] theorem State.silence_stations (s : State) : (s.silence).stations = s.stations := rfl
@[simp] theorem State.silence_mgmtAddr (s : State) : (s.silence).mgmtAddr = s.mgmtAddr := rfl
@[simp] theorem State.silence_stepTimer (s : State) : (s.silence).stepTimer = s.stepTimer := rfl
@[simp] theorem State.silence_policy (s : State) : (s.silence).policy = s.policy := rfl
@[simp] theorem State.silence_forwarding (s : State) : (s.silence).forwarding = s.forwarding := rfl
@[simp] theorem State.silence_mode (s : State) : (s.silence).mode = s.mode := rfl
@[simp] theorem State.silence_line (s : State) : (s.silence).line = s.line := rfl
@[simp] theorem State.silence_factors (s : State) : (s.silence).factors = s.factors := rfl
@[simp] theorem State.silence_memory (s : State) : (s.silence).memory = s.memory := rfl
@[simp] theorem State.silence_pending (s : State) : (s.silence).pending = s.pending := rfl

/-! `handOver`: R28 -/

@[simp] theorem State.handOver_pins (p : Port) (f : FrameRecord) (s : State) : (s.handOver p f).pins = s.pins := by cases p <;> rfl
@[simp] theorem State.handOver_dChangeDue (p : Port) (f : FrameRecord) (s : State) : (s.handOver p f).dChangeDue = s.dChangeDue := by cases p <;> rfl
@[simp] theorem State.handOver_restartDeaf (p : Port) (f : FrameRecord) (s : State) : (s.handOver p f).restartDeaf = s.restartDeaf := by cases p <;> rfl
@[simp] theorem State.handOver_entries (p : Port) (f : FrameRecord) (s : State) : (s.handOver p f).entries = s.entries := by cases p <;> rfl
@[simp] theorem State.handOver_order (p : Port) (f : FrameRecord) (s : State) : (s.handOver p f).order = s.order := by cases p <;> rfl
@[simp] theorem State.handOver_spent (p : Port) (f : FrameRecord) (s : State) : (s.handOver p f).spent = s.spent := by cases p <;> rfl
@[simp] theorem State.handOver_timing (p : Port) (f : FrameRecord) (s : State) : (s.handOver p f).timing = s.timing := by cases p <;> rfl
@[simp] theorem State.handOver_stations (p : Port) (f : FrameRecord) (s : State) : (s.handOver p f).stations = s.stations := by cases p <;> rfl
@[simp] theorem State.handOver_mgmtAddr (p : Port) (f : FrameRecord) (s : State) : (s.handOver p f).mgmtAddr = s.mgmtAddr := by cases p <;> rfl
@[simp] theorem State.handOver_stepTimer (p : Port) (f : FrameRecord) (s : State) : (s.handOver p f).stepTimer = s.stepTimer := by cases p <;> rfl
@[simp] theorem State.handOver_handler (p : Port) (f : FrameRecord) (s : State) : (s.handOver p f).handler = s.handler := by cases p <;> rfl
@[simp] theorem State.handOver_policy (p : Port) (f : FrameRecord) (s : State) : (s.handOver p f).policy = s.policy := by cases p <;> rfl
@[simp] theorem State.handOver_forwarding (p : Port) (f : FrameRecord) (s : State) : (s.handOver p f).forwarding = s.forwarding := by cases p <;> rfl
@[simp] theorem State.handOver_mode (p : Port) (f : FrameRecord) (s : State) : (s.handOver p f).mode = s.mode := by cases p <;> rfl
@[simp] theorem State.handOver_line (p : Port) (f : FrameRecord) (s : State) : (s.handOver p f).line = s.line := by cases p <;> rfl
@[simp] theorem State.handOver_factors (p : Port) (f : FrameRecord) (s : State) : (s.handOver p f).factors = s.factors := by cases p <;> rfl
@[simp] theorem State.handOver_memory (p : Port) (f : FrameRecord) (s : State) : (s.handOver p f).memory = s.memory := by cases p <;> rfl
@[simp] theorem State.handOver_pending (p : Port) (f : FrameRecord) (s : State) : (s.handOver p f).pending = s.pending := by cases p <;> rfl

/-! `raise`: R149 -/

@[simp] theorem State.raise_pins (f : Factor) (s : State) : (s.raise f).pins = s.pins := rfl
@[simp] theorem State.raise_u (f : Factor) (s : State) : (s.raise f).u = s.u := rfl
@[simp] theorem State.raise_d (f : Factor) (s : State) : (s.raise f).d = s.d := rfl
@[simp] theorem State.raise_dChangeDue (f : Factor) (s : State) : (s.raise f).dChangeDue = s.dChangeDue := rfl
@[simp] theorem State.raise_restartDeaf (f : Factor) (s : State) : (s.raise f).restartDeaf = s.restartDeaf := rfl
@[simp] theorem State.raise_entries (f : Factor) (s : State) : (s.raise f).entries = s.entries := rfl
@[simp] theorem State.raise_order (f : Factor) (s : State) : (s.raise f).order = s.order := rfl
@[simp] theorem State.raise_spent (f : Factor) (s : State) : (s.raise f).spent = s.spent := rfl
@[simp] theorem State.raise_timing (f : Factor) (s : State) : (s.raise f).timing = s.timing := rfl
@[simp] theorem State.raise_stations (f : Factor) (s : State) : (s.raise f).stations = s.stations := rfl
@[simp] theorem State.raise_mgmtAddr (f : Factor) (s : State) : (s.raise f).mgmtAddr = s.mgmtAddr := rfl
@[simp] theorem State.raise_stepTimer (f : Factor) (s : State) : (s.raise f).stepTimer = s.stepTimer := rfl
@[simp] theorem State.raise_handler (f : Factor) (s : State) : (s.raise f).handler = s.handler := rfl
@[simp] theorem State.raise_policy (f : Factor) (s : State) : (s.raise f).policy = s.policy := rfl
@[simp] theorem State.raise_forwarding (f : Factor) (s : State) : (s.raise f).forwarding = s.forwarding := rfl
@[simp] theorem State.raise_mode (f : Factor) (s : State) : (s.raise f).mode = s.mode := rfl
@[simp] theorem State.raise_line (f : Factor) (s : State) : (s.raise f).line = s.line := rfl
@[simp] theorem State.raise_memory (f : Factor) (s : State) : (s.raise f).memory = s.memory := rfl
@[simp] theorem State.raise_pending (f : Factor) (s : State) : (s.raise f).pending = s.pending := rfl

/-! `raiseOpt`: R32 -/

@[simp] theorem State.raiseOpt_pins (f : Option Factor) (s : State) : (s.raiseOpt f).pins = s.pins := by cases f <;> rfl
@[simp] theorem State.raiseOpt_u (f : Option Factor) (s : State) : (s.raiseOpt f).u = s.u := by cases f <;> rfl
@[simp] theorem State.raiseOpt_d (f : Option Factor) (s : State) : (s.raiseOpt f).d = s.d := by cases f <;> rfl
@[simp] theorem State.raiseOpt_dChangeDue (f : Option Factor) (s : State) : (s.raiseOpt f).dChangeDue = s.dChangeDue := by cases f <;> rfl
@[simp] theorem State.raiseOpt_restartDeaf (f : Option Factor) (s : State) : (s.raiseOpt f).restartDeaf = s.restartDeaf := by cases f <;> rfl
@[simp] theorem State.raiseOpt_entries (f : Option Factor) (s : State) : (s.raiseOpt f).entries = s.entries := by cases f <;> rfl
@[simp] theorem State.raiseOpt_order (f : Option Factor) (s : State) : (s.raiseOpt f).order = s.order := by cases f <;> rfl
@[simp] theorem State.raiseOpt_spent (f : Option Factor) (s : State) : (s.raiseOpt f).spent = s.spent := by cases f <;> rfl
@[simp] theorem State.raiseOpt_timing (f : Option Factor) (s : State) : (s.raiseOpt f).timing = s.timing := by cases f <;> rfl
@[simp] theorem State.raiseOpt_stations (f : Option Factor) (s : State) : (s.raiseOpt f).stations = s.stations := by cases f <;> rfl
@[simp] theorem State.raiseOpt_mgmtAddr (f : Option Factor) (s : State) : (s.raiseOpt f).mgmtAddr = s.mgmtAddr := by cases f <;> rfl
@[simp] theorem State.raiseOpt_stepTimer (f : Option Factor) (s : State) : (s.raiseOpt f).stepTimer = s.stepTimer := by cases f <;> rfl
@[simp] theorem State.raiseOpt_handler (f : Option Factor) (s : State) : (s.raiseOpt f).handler = s.handler := by cases f <;> rfl
@[simp] theorem State.raiseOpt_policy (f : Option Factor) (s : State) : (s.raiseOpt f).policy = s.policy := by cases f <;> rfl
@[simp] theorem State.raiseOpt_forwarding (f : Option Factor) (s : State) : (s.raiseOpt f).forwarding = s.forwarding := by cases f <;> rfl
@[simp] theorem State.raiseOpt_mode (f : Option Factor) (s : State) : (s.raiseOpt f).mode = s.mode := by cases f <;> rfl
@[simp] theorem State.raiseOpt_line (f : Option Factor) (s : State) : (s.raiseOpt f).line = s.line := by cases f <;> rfl
@[simp] theorem State.raiseOpt_memory (f : Option Factor) (s : State) : (s.raiseOpt f).memory = s.memory := by cases f <;> rfl
@[simp] theorem State.raiseOpt_pending (f : Option Factor) (s : State) : (s.raiseOpt f).pending = s.pending := by cases f <;> rfl

/-! `setEntry`: R39 -/

@[simp] theorem State.setEntry_pins (i : Nat) (x : Exchange) (s : State) : (s.setEntry i x).pins = s.pins := rfl
@[simp] theorem State.setEntry_u (i : Nat) (x : Exchange) (s : State) : (s.setEntry i x).u = s.u := rfl
@[simp] theorem State.setEntry_d (i : Nat) (x : Exchange) (s : State) : (s.setEntry i x).d = s.d := rfl
@[simp] theorem State.setEntry_dChangeDue (i : Nat) (x : Exchange) (s : State) : (s.setEntry i x).dChangeDue = s.dChangeDue := rfl
@[simp] theorem State.setEntry_restartDeaf (i : Nat) (x : Exchange) (s : State) : (s.setEntry i x).restartDeaf = s.restartDeaf := rfl
@[simp] theorem State.setEntry_order (i : Nat) (x : Exchange) (s : State) : (s.setEntry i x).order = s.order := rfl
@[simp] theorem State.setEntry_spent (i : Nat) (x : Exchange) (s : State) : (s.setEntry i x).spent = s.spent := rfl
@[simp] theorem State.setEntry_timing (i : Nat) (x : Exchange) (s : State) : (s.setEntry i x).timing = s.timing := rfl
@[simp] theorem State.setEntry_stations (i : Nat) (x : Exchange) (s : State) : (s.setEntry i x).stations = s.stations := rfl
@[simp] theorem State.setEntry_mgmtAddr (i : Nat) (x : Exchange) (s : State) : (s.setEntry i x).mgmtAddr = s.mgmtAddr := rfl
@[simp] theorem State.setEntry_stepTimer (i : Nat) (x : Exchange) (s : State) : (s.setEntry i x).stepTimer = s.stepTimer := rfl
@[simp] theorem State.setEntry_handler (i : Nat) (x : Exchange) (s : State) : (s.setEntry i x).handler = s.handler := rfl
@[simp] theorem State.setEntry_policy (i : Nat) (x : Exchange) (s : State) : (s.setEntry i x).policy = s.policy := rfl
@[simp] theorem State.setEntry_forwarding (i : Nat) (x : Exchange) (s : State) : (s.setEntry i x).forwarding = s.forwarding := rfl
@[simp] theorem State.setEntry_mode (i : Nat) (x : Exchange) (s : State) : (s.setEntry i x).mode = s.mode := rfl
@[simp] theorem State.setEntry_line (i : Nat) (x : Exchange) (s : State) : (s.setEntry i x).line = s.line := rfl
@[simp] theorem State.setEntry_factors (i : Nat) (x : Exchange) (s : State) : (s.setEntry i x).factors = s.factors := rfl
@[simp] theorem State.setEntry_memory (i : Nat) (x : Exchange) (s : State) : (s.setEntry i x).memory = s.memory := rfl
@[simp] theorem State.setEntry_pending (i : Nat) (x : Exchange) (s : State) : (s.setEntry i x).pending = s.pending := rfl

/-! `freeEntry`: R42 -/

@[simp] theorem State.freeEntry_pins (i : Nat) (s : State) : (s.freeEntry i).pins = s.pins := rfl
@[simp] theorem State.freeEntry_u (i : Nat) (s : State) : (s.freeEntry i).u = s.u := rfl
@[simp] theorem State.freeEntry_d (i : Nat) (s : State) : (s.freeEntry i).d = s.d := rfl
@[simp] theorem State.freeEntry_dChangeDue (i : Nat) (s : State) : (s.freeEntry i).dChangeDue = s.dChangeDue := rfl
@[simp] theorem State.freeEntry_restartDeaf (i : Nat) (s : State) : (s.freeEntry i).restartDeaf = s.restartDeaf := rfl
@[simp] theorem State.freeEntry_spent (i : Nat) (s : State) : (s.freeEntry i).spent = s.spent := rfl
@[simp] theorem State.freeEntry_timing (i : Nat) (s : State) : (s.freeEntry i).timing = s.timing := rfl
@[simp] theorem State.freeEntry_stations (i : Nat) (s : State) : (s.freeEntry i).stations = s.stations := rfl
@[simp] theorem State.freeEntry_mgmtAddr (i : Nat) (s : State) : (s.freeEntry i).mgmtAddr = s.mgmtAddr := rfl
@[simp] theorem State.freeEntry_stepTimer (i : Nat) (s : State) : (s.freeEntry i).stepTimer = s.stepTimer := rfl
@[simp] theorem State.freeEntry_handler (i : Nat) (s : State) : (s.freeEntry i).handler = s.handler := rfl
@[simp] theorem State.freeEntry_policy (i : Nat) (s : State) : (s.freeEntry i).policy = s.policy := rfl
@[simp] theorem State.freeEntry_forwarding (i : Nat) (s : State) : (s.freeEntry i).forwarding = s.forwarding := rfl
@[simp] theorem State.freeEntry_mode (i : Nat) (s : State) : (s.freeEntry i).mode = s.mode := rfl
@[simp] theorem State.freeEntry_line (i : Nat) (s : State) : (s.freeEntry i).line = s.line := rfl
@[simp] theorem State.freeEntry_factors (i : Nat) (s : State) : (s.freeEntry i).factors = s.factors := rfl
@[simp] theorem State.freeEntry_memory (i : Nat) (s : State) : (s.freeEntry i).memory = s.memory := rfl
@[simp] theorem State.freeEntry_pending (i : Nat) (s : State) : (s.freeEntry i).pending = s.pending := rfl

/-! `removeSpent`: R56 -/

@[simp] theorem State.removeSpent_pins (k : Key) (s : State) : (s.removeSpent k).pins = s.pins := rfl
@[simp] theorem State.removeSpent_u (k : Key) (s : State) : (s.removeSpent k).u = s.u := rfl
@[simp] theorem State.removeSpent_d (k : Key) (s : State) : (s.removeSpent k).d = s.d := rfl
@[simp] theorem State.removeSpent_dChangeDue (k : Key) (s : State) : (s.removeSpent k).dChangeDue = s.dChangeDue := rfl
@[simp] theorem State.removeSpent_restartDeaf (k : Key) (s : State) : (s.removeSpent k).restartDeaf = s.restartDeaf := rfl
@[simp] theorem State.removeSpent_entries (k : Key) (s : State) : (s.removeSpent k).entries = s.entries := rfl
@[simp] theorem State.removeSpent_order (k : Key) (s : State) : (s.removeSpent k).order = s.order := rfl
@[simp] theorem State.removeSpent_timing (k : Key) (s : State) : (s.removeSpent k).timing = s.timing := rfl
@[simp] theorem State.removeSpent_stations (k : Key) (s : State) : (s.removeSpent k).stations = s.stations := rfl
@[simp] theorem State.removeSpent_mgmtAddr (k : Key) (s : State) : (s.removeSpent k).mgmtAddr = s.mgmtAddr := rfl
@[simp] theorem State.removeSpent_stepTimer (k : Key) (s : State) : (s.removeSpent k).stepTimer = s.stepTimer := rfl
@[simp] theorem State.removeSpent_handler (k : Key) (s : State) : (s.removeSpent k).handler = s.handler := rfl
@[simp] theorem State.removeSpent_policy (k : Key) (s : State) : (s.removeSpent k).policy = s.policy := rfl
@[simp] theorem State.removeSpent_forwarding (k : Key) (s : State) : (s.removeSpent k).forwarding = s.forwarding := rfl
@[simp] theorem State.removeSpent_mode (k : Key) (s : State) : (s.removeSpent k).mode = s.mode := rfl
@[simp] theorem State.removeSpent_line (k : Key) (s : State) : (s.removeSpent k).line = s.line := rfl
@[simp] theorem State.removeSpent_factors (k : Key) (s : State) : (s.removeSpent k).factors = s.factors := rfl
@[simp] theorem State.removeSpent_memory (k : Key) (s : State) : (s.removeSpent k).memory = s.memory := rfl
@[simp] theorem State.removeSpent_pending (k : Key) (s : State) : (s.removeSpent k).pending = s.pending := rfl

/-! `addSpent`: R55 -/

@[simp] theorem State.addSpent_pins (k : Key) (s : State) : (s.addSpent k).pins = s.pins := rfl
@[simp] theorem State.addSpent_u (k : Key) (s : State) : (s.addSpent k).u = s.u := rfl
@[simp] theorem State.addSpent_d (k : Key) (s : State) : (s.addSpent k).d = s.d := rfl
@[simp] theorem State.addSpent_dChangeDue (k : Key) (s : State) : (s.addSpent k).dChangeDue = s.dChangeDue := rfl
@[simp] theorem State.addSpent_restartDeaf (k : Key) (s : State) : (s.addSpent k).restartDeaf = s.restartDeaf := rfl
@[simp] theorem State.addSpent_entries (k : Key) (s : State) : (s.addSpent k).entries = s.entries := rfl
@[simp] theorem State.addSpent_order (k : Key) (s : State) : (s.addSpent k).order = s.order := rfl
@[simp] theorem State.addSpent_timing (k : Key) (s : State) : (s.addSpent k).timing = s.timing := rfl
@[simp] theorem State.addSpent_stations (k : Key) (s : State) : (s.addSpent k).stations = s.stations := rfl
@[simp] theorem State.addSpent_mgmtAddr (k : Key) (s : State) : (s.addSpent k).mgmtAddr = s.mgmtAddr := rfl
@[simp] theorem State.addSpent_stepTimer (k : Key) (s : State) : (s.addSpent k).stepTimer = s.stepTimer := rfl
@[simp] theorem State.addSpent_handler (k : Key) (s : State) : (s.addSpent k).handler = s.handler := rfl
@[simp] theorem State.addSpent_policy (k : Key) (s : State) : (s.addSpent k).policy = s.policy := rfl
@[simp] theorem State.addSpent_forwarding (k : Key) (s : State) : (s.addSpent k).forwarding = s.forwarding := rfl
@[simp] theorem State.addSpent_mode (k : Key) (s : State) : (s.addSpent k).mode = s.mode := rfl
@[simp] theorem State.addSpent_line (k : Key) (s : State) : (s.addSpent k).line = s.line := rfl
@[simp] theorem State.addSpent_factors (k : Key) (s : State) : (s.addSpent k).factors = s.factors := rfl
@[simp] theorem State.addSpent_memory (k : Key) (s : State) : (s.addSpent k).memory = s.memory := rfl
@[simp] theorem State.addSpent_pending (k : Key) (s : State) : (s.addSpent k).pending = s.pending := rfl

/-! `forgetMemory`: R178 -/

@[simp] theorem State.forgetMemory_pins (s : State) : (s.forgetMemory).pins = s.pins := rfl
@[simp] theorem State.forgetMemory_u (s : State) : (s.forgetMemory).u = s.u := rfl
@[simp] theorem State.forgetMemory_d (s : State) : (s.forgetMemory).d = s.d := rfl
@[simp] theorem State.forgetMemory_dChangeDue (s : State) : (s.forgetMemory).dChangeDue = s.dChangeDue := rfl
@[simp] theorem State.forgetMemory_restartDeaf (s : State) : (s.forgetMemory).restartDeaf = s.restartDeaf := rfl
@[simp] theorem State.forgetMemory_entries (s : State) : (s.forgetMemory).entries = s.entries := rfl
@[simp] theorem State.forgetMemory_order (s : State) : (s.forgetMemory).order = s.order := rfl
@[simp] theorem State.forgetMemory_spent (s : State) : (s.forgetMemory).spent = s.spent := rfl
@[simp] theorem State.forgetMemory_timing (s : State) : (s.forgetMemory).timing = s.timing := rfl
@[simp] theorem State.forgetMemory_stations (s : State) : (s.forgetMemory).stations = s.stations := rfl
@[simp] theorem State.forgetMemory_mgmtAddr (s : State) : (s.forgetMemory).mgmtAddr = s.mgmtAddr := rfl
@[simp] theorem State.forgetMemory_stepTimer (s : State) : (s.forgetMemory).stepTimer = s.stepTimer := rfl
@[simp] theorem State.forgetMemory_handler (s : State) : (s.forgetMemory).handler = s.handler := rfl
@[simp] theorem State.forgetMemory_policy (s : State) : (s.forgetMemory).policy = s.policy := rfl
@[simp] theorem State.forgetMemory_forwarding (s : State) : (s.forgetMemory).forwarding = s.forwarding := rfl
@[simp] theorem State.forgetMemory_mode (s : State) : (s.forgetMemory).mode = s.mode := rfl
@[simp] theorem State.forgetMemory_line (s : State) : (s.forgetMemory).line = s.line := rfl
@[simp] theorem State.forgetMemory_factors (s : State) : (s.forgetMemory).factors = s.factors := rfl
@[simp] theorem State.forgetMemory_pending (s : State) : (s.forgetMemory).pending = s.pending := rfl

/-! `sendAnswer`: R89 -/

@[simp] theorem State.sendAnswer_pins (m : AnswerMark) (f : FrameRecord) (s : State) : (s.sendAnswer m f).pins = s.pins := rfl
@[simp] theorem State.sendAnswer_d (m : AnswerMark) (f : FrameRecord) (s : State) : (s.sendAnswer m f).d = s.d := rfl
@[simp] theorem State.sendAnswer_dChangeDue (m : AnswerMark) (f : FrameRecord) (s : State) : (s.sendAnswer m f).dChangeDue = s.dChangeDue := rfl
@[simp] theorem State.sendAnswer_restartDeaf (m : AnswerMark) (f : FrameRecord) (s : State) : (s.sendAnswer m f).restartDeaf = s.restartDeaf := rfl
@[simp] theorem State.sendAnswer_entries (m : AnswerMark) (f : FrameRecord) (s : State) : (s.sendAnswer m f).entries = s.entries := rfl
@[simp] theorem State.sendAnswer_order (m : AnswerMark) (f : FrameRecord) (s : State) : (s.sendAnswer m f).order = s.order := rfl
@[simp] theorem State.sendAnswer_spent (m : AnswerMark) (f : FrameRecord) (s : State) : (s.sendAnswer m f).spent = s.spent := rfl
@[simp] theorem State.sendAnswer_timing (m : AnswerMark) (f : FrameRecord) (s : State) : (s.sendAnswer m f).timing = s.timing := rfl
@[simp] theorem State.sendAnswer_stations (m : AnswerMark) (f : FrameRecord) (s : State) : (s.sendAnswer m f).stations = s.stations := rfl
@[simp] theorem State.sendAnswer_mgmtAddr (m : AnswerMark) (f : FrameRecord) (s : State) : (s.sendAnswer m f).mgmtAddr = s.mgmtAddr := rfl
@[simp] theorem State.sendAnswer_stepTimer (m : AnswerMark) (f : FrameRecord) (s : State) : (s.sendAnswer m f).stepTimer = s.stepTimer := rfl
@[simp] theorem State.sendAnswer_policy (m : AnswerMark) (f : FrameRecord) (s : State) : (s.sendAnswer m f).policy = s.policy := rfl
@[simp] theorem State.sendAnswer_forwarding (m : AnswerMark) (f : FrameRecord) (s : State) : (s.sendAnswer m f).forwarding = s.forwarding := rfl
@[simp] theorem State.sendAnswer_mode (m : AnswerMark) (f : FrameRecord) (s : State) : (s.sendAnswer m f).mode = s.mode := rfl
@[simp] theorem State.sendAnswer_line (m : AnswerMark) (f : FrameRecord) (s : State) : (s.sendAnswer m f).line = s.line := rfl
@[simp] theorem State.sendAnswer_factors (m : AnswerMark) (f : FrameRecord) (s : State) : (s.sendAnswer m f).factors = s.factors := rfl
@[simp] theorem State.sendAnswer_memory (m : AnswerMark) (f : FrameRecord) (s : State) : (s.sendAnswer m f).memory = s.memory := rfl
@[simp] theorem State.sendAnswer_pending (m : AnswerMark) (f : FrameRecord) (s : State) : (s.sendAnswer m f).pending = s.pending := rfl

/-! `beginTaking`: R26 -/

@[simp] theorem State.beginTaking_pins (f : FrameRecord) (s : State) : (s.beginTaking f).pins = s.pins := rfl
@[simp] theorem State.beginTaking_d (f : FrameRecord) (s : State) : (s.beginTaking f).d = s.d := rfl
@[simp] theorem State.beginTaking_dChangeDue (f : FrameRecord) (s : State) : (s.beginTaking f).dChangeDue = s.dChangeDue := rfl
@[simp] theorem State.beginTaking_restartDeaf (f : FrameRecord) (s : State) : (s.beginTaking f).restartDeaf = s.restartDeaf := rfl
@[simp] theorem State.beginTaking_entries (f : FrameRecord) (s : State) : (s.beginTaking f).entries = s.entries := rfl
@[simp] theorem State.beginTaking_order (f : FrameRecord) (s : State) : (s.beginTaking f).order = s.order := rfl
@[simp] theorem State.beginTaking_spent (f : FrameRecord) (s : State) : (s.beginTaking f).spent = s.spent := rfl
@[simp] theorem State.beginTaking_timing (f : FrameRecord) (s : State) : (s.beginTaking f).timing = s.timing := rfl
@[simp] theorem State.beginTaking_stations (f : FrameRecord) (s : State) : (s.beginTaking f).stations = s.stations := rfl
@[simp] theorem State.beginTaking_mgmtAddr (f : FrameRecord) (s : State) : (s.beginTaking f).mgmtAddr = s.mgmtAddr := rfl
@[simp] theorem State.beginTaking_stepTimer (f : FrameRecord) (s : State) : (s.beginTaking f).stepTimer = s.stepTimer := rfl
@[simp] theorem State.beginTaking_policy (f : FrameRecord) (s : State) : (s.beginTaking f).policy = s.policy := rfl
@[simp] theorem State.beginTaking_forwarding (f : FrameRecord) (s : State) : (s.beginTaking f).forwarding = s.forwarding := rfl
@[simp] theorem State.beginTaking_mode (f : FrameRecord) (s : State) : (s.beginTaking f).mode = s.mode := rfl
@[simp] theorem State.beginTaking_line (f : FrameRecord) (s : State) : (s.beginTaking f).line = s.line := rfl
@[simp] theorem State.beginTaking_factors (f : FrameRecord) (s : State) : (s.beginTaking f).factors = s.factors := rfl
@[simp] theorem State.beginTaking_memory (f : FrameRecord) (s : State) : (s.beginTaking f).memory = s.memory := rfl
@[simp] theorem State.beginTaking_pending (f : FrameRecord) (s : State) : (s.beginTaking f).pending = s.pending := rfl

/-! `withdrawFrame`: R31 -/

@[simp] theorem State.withdrawFrame_pins (s : State) : (s.withdrawFrame).pins = s.pins := by unfold State.withdrawFrame; split <;> rfl
@[simp] theorem State.withdrawFrame_u (s : State) : (s.withdrawFrame).u = s.u := by unfold State.withdrawFrame; split <;> rfl
@[simp] theorem State.withdrawFrame_dChangeDue (s : State) : (s.withdrawFrame).dChangeDue = s.dChangeDue := by unfold State.withdrawFrame; split <;> rfl
@[simp] theorem State.withdrawFrame_restartDeaf (s : State) : (s.withdrawFrame).restartDeaf = s.restartDeaf := by unfold State.withdrawFrame; split <;> rfl
@[simp] theorem State.withdrawFrame_entries (s : State) : (s.withdrawFrame).entries = s.entries := by unfold State.withdrawFrame; split <;> rfl
@[simp] theorem State.withdrawFrame_order (s : State) : (s.withdrawFrame).order = s.order := by unfold State.withdrawFrame; split <;> rfl
@[simp] theorem State.withdrawFrame_spent (s : State) : (s.withdrawFrame).spent = s.spent := by unfold State.withdrawFrame; split <;> rfl
@[simp] theorem State.withdrawFrame_timing (s : State) : (s.withdrawFrame).timing = s.timing := by unfold State.withdrawFrame; split <;> rfl
@[simp] theorem State.withdrawFrame_stations (s : State) : (s.withdrawFrame).stations = s.stations := by unfold State.withdrawFrame; split <;> rfl
@[simp] theorem State.withdrawFrame_mgmtAddr (s : State) : (s.withdrawFrame).mgmtAddr = s.mgmtAddr := by unfold State.withdrawFrame; split <;> rfl
@[simp] theorem State.withdrawFrame_stepTimer (s : State) : (s.withdrawFrame).stepTimer = s.stepTimer := by unfold State.withdrawFrame; split <;> rfl
@[simp] theorem State.withdrawFrame_handler (s : State) : (s.withdrawFrame).handler = s.handler := by unfold State.withdrawFrame; split <;> rfl
@[simp] theorem State.withdrawFrame_policy (s : State) : (s.withdrawFrame).policy = s.policy := by unfold State.withdrawFrame; split <;> rfl
@[simp] theorem State.withdrawFrame_forwarding (s : State) : (s.withdrawFrame).forwarding = s.forwarding := by unfold State.withdrawFrame; split <;> rfl
@[simp] theorem State.withdrawFrame_mode (s : State) : (s.withdrawFrame).mode = s.mode := by unfold State.withdrawFrame; split <;> rfl
@[simp] theorem State.withdrawFrame_line (s : State) : (s.withdrawFrame).line = s.line := by unfold State.withdrawFrame; split <;> rfl
@[simp] theorem State.withdrawFrame_factors (s : State) : (s.withdrawFrame).factors = s.factors := by unfold State.withdrawFrame; split <;> rfl
@[simp] theorem State.withdrawFrame_memory (s : State) : (s.withdrawFrame).memory = s.memory := by unfold State.withdrawFrame; split <;> rfl
@[simp] theorem State.withdrawFrame_pending (s : State) : (s.withdrawFrame).pending = s.pending := by unfold State.withdrawFrame; split <;> rfl

/-! `settleDSettings`: R36 -/

@[simp] theorem State.settleDSettings_pins (s : State) : (s.settleDSettings).pins = s.pins := by unfold State.settleDSettings; split <;> rfl
@[simp] theorem State.settleDSettings_u (s : State) : (s.settleDSettings).u = s.u := by unfold State.settleDSettings; split <;> rfl
@[simp] theorem State.settleDSettings_restartDeaf (s : State) : (s.settleDSettings).restartDeaf = s.restartDeaf := by unfold State.settleDSettings; split <;> rfl
@[simp] theorem State.settleDSettings_entries (s : State) : (s.settleDSettings).entries = s.entries := by unfold State.settleDSettings; split <;> rfl
@[simp] theorem State.settleDSettings_order (s : State) : (s.settleDSettings).order = s.order := by unfold State.settleDSettings; split <;> rfl
@[simp] theorem State.settleDSettings_spent (s : State) : (s.settleDSettings).spent = s.spent := by unfold State.settleDSettings; split <;> rfl
@[simp] theorem State.settleDSettings_timing (s : State) : (s.settleDSettings).timing = s.timing := by unfold State.settleDSettings; split <;> rfl
@[simp] theorem State.settleDSettings_stations (s : State) : (s.settleDSettings).stations = s.stations := by unfold State.settleDSettings; split <;> rfl
@[simp] theorem State.settleDSettings_mgmtAddr (s : State) : (s.settleDSettings).mgmtAddr = s.mgmtAddr := by unfold State.settleDSettings; split <;> rfl
@[simp] theorem State.settleDSettings_stepTimer (s : State) : (s.settleDSettings).stepTimer = s.stepTimer := by unfold State.settleDSettings; split <;> rfl
@[simp] theorem State.settleDSettings_handler (s : State) : (s.settleDSettings).handler = s.handler := by unfold State.settleDSettings; split <;> rfl
@[simp] theorem State.settleDSettings_policy (s : State) : (s.settleDSettings).policy = s.policy := by unfold State.settleDSettings; split <;> rfl
@[simp] theorem State.settleDSettings_forwarding (s : State) : (s.settleDSettings).forwarding = s.forwarding := by unfold State.settleDSettings; split <;> rfl
@[simp] theorem State.settleDSettings_mode (s : State) : (s.settleDSettings).mode = s.mode := by unfold State.settleDSettings; split <;> rfl
@[simp] theorem State.settleDSettings_line (s : State) : (s.settleDSettings).line = s.line := by unfold State.settleDSettings; split <;> rfl
@[simp] theorem State.settleDSettings_factors (s : State) : (s.settleDSettings).factors = s.factors := by unfold State.settleDSettings; split <;> rfl
@[simp] theorem State.settleDSettings_memory (s : State) : (s.settleDSettings).memory = s.memory := by unfold State.settleDSettings; split <;> rfl
@[simp] theorem State.settleDSettings_pending (s : State) : (s.settleDSettings).pending = s.pending := by unfold State.settleDSettings; split <;> rfl

/-! `countStation`: R84 -/

@[simp] theorem State.countStation_pins (c : StationCounter) (a : Nat) (s : State) : (s.countStation c a).pins = s.pins := by unfold State.countStation State.updateStation; split <;> rfl
@[simp] theorem State.countStation_u (c : StationCounter) (a : Nat) (s : State) : (s.countStation c a).u = s.u := by unfold State.countStation State.updateStation; split <;> rfl
@[simp] theorem State.countStation_d (c : StationCounter) (a : Nat) (s : State) : (s.countStation c a).d = s.d := by unfold State.countStation State.updateStation; split <;> rfl
@[simp] theorem State.countStation_dChangeDue (c : StationCounter) (a : Nat) (s : State) : (s.countStation c a).dChangeDue = s.dChangeDue := by unfold State.countStation State.updateStation; split <;> rfl
@[simp] theorem State.countStation_restartDeaf (c : StationCounter) (a : Nat) (s : State) : (s.countStation c a).restartDeaf = s.restartDeaf := by unfold State.countStation State.updateStation; split <;> rfl
@[simp] theorem State.countStation_entries (c : StationCounter) (a : Nat) (s : State) : (s.countStation c a).entries = s.entries := by unfold State.countStation State.updateStation; split <;> rfl
@[simp] theorem State.countStation_order (c : StationCounter) (a : Nat) (s : State) : (s.countStation c a).order = s.order := by unfold State.countStation State.updateStation; split <;> rfl
@[simp] theorem State.countStation_spent (c : StationCounter) (a : Nat) (s : State) : (s.countStation c a).spent = s.spent := by unfold State.countStation State.updateStation; split <;> rfl
@[simp] theorem State.countStation_timing (c : StationCounter) (a : Nat) (s : State) : (s.countStation c a).timing = s.timing := by unfold State.countStation State.updateStation; split <;> rfl
@[simp] theorem State.countStation_mgmtAddr (c : StationCounter) (a : Nat) (s : State) : (s.countStation c a).mgmtAddr = s.mgmtAddr := by unfold State.countStation State.updateStation; split <;> rfl
@[simp] theorem State.countStation_stepTimer (c : StationCounter) (a : Nat) (s : State) : (s.countStation c a).stepTimer = s.stepTimer := by unfold State.countStation State.updateStation; split <;> rfl
@[simp] theorem State.countStation_handler (c : StationCounter) (a : Nat) (s : State) : (s.countStation c a).handler = s.handler := by unfold State.countStation State.updateStation; split <;> rfl
@[simp] theorem State.countStation_policy (c : StationCounter) (a : Nat) (s : State) : (s.countStation c a).policy = s.policy := by unfold State.countStation State.updateStation; split <;> rfl
@[simp] theorem State.countStation_forwarding (c : StationCounter) (a : Nat) (s : State) : (s.countStation c a).forwarding = s.forwarding := by unfold State.countStation State.updateStation; split <;> rfl
@[simp] theorem State.countStation_mode (c : StationCounter) (a : Nat) (s : State) : (s.countStation c a).mode = s.mode := by unfold State.countStation State.updateStation; split <;> rfl
@[simp] theorem State.countStation_line (c : StationCounter) (a : Nat) (s : State) : (s.countStation c a).line = s.line := by unfold State.countStation State.updateStation; split <;> rfl
@[simp] theorem State.countStation_factors (c : StationCounter) (a : Nat) (s : State) : (s.countStation c a).factors = s.factors := by unfold State.countStation State.updateStation; split <;> rfl
@[simp] theorem State.countStation_memory (c : StationCounter) (a : Nat) (s : State) : (s.countStation c a).memory = s.memory := by unfold State.countStation State.updateStation; split <;> rfl
@[simp] theorem State.countStation_pending (c : StationCounter) (a : Nat) (s : State) : (s.countStation c a).pending = s.pending := by unfold State.countStation State.updateStation; split <;> rfl

/-! `countPort`: R32 -/

@[simp] theorem State.countPort_pins (p : Port) (c : PortCounter) (s : State) : (s.countPort p c).pins = s.pins := by unfold State.countPort; cases p <;> simp [State.updatePort]
@[simp] theorem State.countPort_dChangeDue (p : Port) (c : PortCounter) (s : State) : (s.countPort p c).dChangeDue = s.dChangeDue := by unfold State.countPort; cases p <;> simp [State.updatePort]
@[simp] theorem State.countPort_restartDeaf (p : Port) (c : PortCounter) (s : State) : (s.countPort p c).restartDeaf = s.restartDeaf := by unfold State.countPort; cases p <;> simp [State.updatePort]
@[simp] theorem State.countPort_entries (p : Port) (c : PortCounter) (s : State) : (s.countPort p c).entries = s.entries := by unfold State.countPort; cases p <;> simp [State.updatePort]
@[simp] theorem State.countPort_order (p : Port) (c : PortCounter) (s : State) : (s.countPort p c).order = s.order := by unfold State.countPort; cases p <;> simp [State.updatePort]
@[simp] theorem State.countPort_spent (p : Port) (c : PortCounter) (s : State) : (s.countPort p c).spent = s.spent := by unfold State.countPort; cases p <;> simp [State.updatePort]
@[simp] theorem State.countPort_timing (p : Port) (c : PortCounter) (s : State) : (s.countPort p c).timing = s.timing := by unfold State.countPort; cases p <;> simp [State.updatePort]
@[simp] theorem State.countPort_stations (p : Port) (c : PortCounter) (s : State) : (s.countPort p c).stations = s.stations := by unfold State.countPort; cases p <;> simp [State.updatePort]
@[simp] theorem State.countPort_mgmtAddr (p : Port) (c : PortCounter) (s : State) : (s.countPort p c).mgmtAddr = s.mgmtAddr := by unfold State.countPort; cases p <;> simp [State.updatePort]
@[simp] theorem State.countPort_stepTimer (p : Port) (c : PortCounter) (s : State) : (s.countPort p c).stepTimer = s.stepTimer := by unfold State.countPort; cases p <;> simp [State.updatePort]
@[simp] theorem State.countPort_handler (p : Port) (c : PortCounter) (s : State) : (s.countPort p c).handler = s.handler := by unfold State.countPort; cases p <;> simp [State.updatePort]
@[simp] theorem State.countPort_policy (p : Port) (c : PortCounter) (s : State) : (s.countPort p c).policy = s.policy := by unfold State.countPort; cases p <;> simp [State.updatePort]
@[simp] theorem State.countPort_forwarding (p : Port) (c : PortCounter) (s : State) : (s.countPort p c).forwarding = s.forwarding := by unfold State.countPort; cases p <;> simp [State.updatePort]
@[simp] theorem State.countPort_mode (p : Port) (c : PortCounter) (s : State) : (s.countPort p c).mode = s.mode := by unfold State.countPort; cases p <;> simp [State.updatePort]
@[simp] theorem State.countPort_line (p : Port) (c : PortCounter) (s : State) : (s.countPort p c).line = s.line := by unfold State.countPort; cases p <;> simp [State.updatePort]
@[simp] theorem State.countPort_memory (p : Port) (c : PortCounter) (s : State) : (s.countPort p c).memory = s.memory := by unfold State.countPort; cases p <;> simp [State.updatePort]
@[simp] theorem State.countPort_pending (p : Port) (c : PortCounter) (s : State) : (s.countPort p c).pending = s.pending := by unfold State.countPort; cases p <;> simp [State.updatePort]

/-! `setLevel`: R136 -/

@[simp] theorem State.setLevel_pins (a : Nat) (n : Nat) (s : State) : (s.setLevel a n).pins = s.pins := by unfold State.setLevel; split <;> (try split) <;> simp
@[simp] theorem State.setLevel_u (a : Nat) (n : Nat) (s : State) : (s.setLevel a n).u = s.u := by unfold State.setLevel; split <;> (try split) <;> simp
@[simp] theorem State.setLevel_d (a : Nat) (n : Nat) (s : State) : (s.setLevel a n).d = s.d := by unfold State.setLevel; split <;> (try split) <;> simp
@[simp] theorem State.setLevel_dChangeDue (a : Nat) (n : Nat) (s : State) : (s.setLevel a n).dChangeDue = s.dChangeDue := by unfold State.setLevel; split <;> (try split) <;> simp
@[simp] theorem State.setLevel_restartDeaf (a : Nat) (n : Nat) (s : State) : (s.setLevel a n).restartDeaf = s.restartDeaf := by unfold State.setLevel; split <;> (try split) <;> simp
@[simp] theorem State.setLevel_entries (a : Nat) (n : Nat) (s : State) : (s.setLevel a n).entries = s.entries := by unfold State.setLevel; split <;> (try split) <;> simp
@[simp] theorem State.setLevel_order (a : Nat) (n : Nat) (s : State) : (s.setLevel a n).order = s.order := by unfold State.setLevel; split <;> (try split) <;> simp
@[simp] theorem State.setLevel_spent (a : Nat) (n : Nat) (s : State) : (s.setLevel a n).spent = s.spent := by unfold State.setLevel; split <;> (try split) <;> simp
@[simp] theorem State.setLevel_timing (a : Nat) (n : Nat) (s : State) : (s.setLevel a n).timing = s.timing := by unfold State.setLevel; split <;> (try split) <;> simp
@[simp] theorem State.setLevel_mgmtAddr (a : Nat) (n : Nat) (s : State) : (s.setLevel a n).mgmtAddr = s.mgmtAddr := by unfold State.setLevel; split <;> (try split) <;> simp
@[simp] theorem State.setLevel_stepTimer (a : Nat) (n : Nat) (s : State) : (s.setLevel a n).stepTimer = s.stepTimer := by unfold State.setLevel; split <;> (try split) <;> simp
@[simp] theorem State.setLevel_handler (a : Nat) (n : Nat) (s : State) : (s.setLevel a n).handler = s.handler := by unfold State.setLevel; split <;> (try split) <;> simp
@[simp] theorem State.setLevel_policy (a : Nat) (n : Nat) (s : State) : (s.setLevel a n).policy = s.policy := by unfold State.setLevel; split <;> (try split) <;> simp
@[simp] theorem State.setLevel_forwarding (a : Nat) (n : Nat) (s : State) : (s.setLevel a n).forwarding = s.forwarding := by unfold State.setLevel; split <;> (try split) <;> simp
@[simp] theorem State.setLevel_mode (a : Nat) (n : Nat) (s : State) : (s.setLevel a n).mode = s.mode := by unfold State.setLevel; split <;> (try split) <;> simp
@[simp] theorem State.setLevel_line (a : Nat) (n : Nat) (s : State) : (s.setLevel a n).line = s.line := by unfold State.setLevel; split <;> (try split) <;> simp
@[simp] theorem State.setLevel_memory (a : Nat) (n : Nat) (s : State) : (s.setLevel a n).memory = s.memory := by unfold State.setLevel; split <;> (try split) <;> simp
@[simp] theorem State.setLevel_pending (a : Nat) (n : Nat) (s : State) : (s.setLevel a n).pending = s.pending := by unfold State.setLevel; split <;> (try split) <;> simp

/-! `advanceLevel`: R136 -/

@[simp] theorem State.advanceLevel_pins (a : Nat) (s : State) : (s.advanceLevel a).pins = s.pins := by simp [State.advanceLevel]
@[simp] theorem State.advanceLevel_u (a : Nat) (s : State) : (s.advanceLevel a).u = s.u := by simp [State.advanceLevel]
@[simp] theorem State.advanceLevel_d (a : Nat) (s : State) : (s.advanceLevel a).d = s.d := by simp [State.advanceLevel]
@[simp] theorem State.advanceLevel_dChangeDue (a : Nat) (s : State) : (s.advanceLevel a).dChangeDue = s.dChangeDue := by simp [State.advanceLevel]
@[simp] theorem State.advanceLevel_restartDeaf (a : Nat) (s : State) : (s.advanceLevel a).restartDeaf = s.restartDeaf := by simp [State.advanceLevel]
@[simp] theorem State.advanceLevel_entries (a : Nat) (s : State) : (s.advanceLevel a).entries = s.entries := by simp [State.advanceLevel]
@[simp] theorem State.advanceLevel_order (a : Nat) (s : State) : (s.advanceLevel a).order = s.order := by simp [State.advanceLevel]
@[simp] theorem State.advanceLevel_spent (a : Nat) (s : State) : (s.advanceLevel a).spent = s.spent := by simp [State.advanceLevel]
@[simp] theorem State.advanceLevel_timing (a : Nat) (s : State) : (s.advanceLevel a).timing = s.timing := by simp [State.advanceLevel]
@[simp] theorem State.advanceLevel_mgmtAddr (a : Nat) (s : State) : (s.advanceLevel a).mgmtAddr = s.mgmtAddr := by simp [State.advanceLevel]
@[simp] theorem State.advanceLevel_stepTimer (a : Nat) (s : State) : (s.advanceLevel a).stepTimer = s.stepTimer := by simp [State.advanceLevel]
@[simp] theorem State.advanceLevel_handler (a : Nat) (s : State) : (s.advanceLevel a).handler = s.handler := by simp [State.advanceLevel]
@[simp] theorem State.advanceLevel_policy (a : Nat) (s : State) : (s.advanceLevel a).policy = s.policy := by simp [State.advanceLevel]
@[simp] theorem State.advanceLevel_forwarding (a : Nat) (s : State) : (s.advanceLevel a).forwarding = s.forwarding := by simp [State.advanceLevel]
@[simp] theorem State.advanceLevel_mode (a : Nat) (s : State) : (s.advanceLevel a).mode = s.mode := by simp [State.advanceLevel]
@[simp] theorem State.advanceLevel_line (a : Nat) (s : State) : (s.advanceLevel a).line = s.line := by simp [State.advanceLevel]
@[simp] theorem State.advanceLevel_memory (a : Nat) (s : State) : (s.advanceLevel a).memory = s.memory := by simp [State.advanceLevel]
@[simp] theorem State.advanceLevel_pending (a : Nat) (s : State) : (s.advanceLevel a).pending = s.pending := by simp [State.advanceLevel]

/-! `lineIdle`: R114 -/

@[simp] theorem State.lineIdle_pins (s : State) : (s.lineIdle).pins = s.pins := by simp [State.lineIdle]
@[simp] theorem State.lineIdle_u (s : State) : (s.lineIdle).u = s.u := by simp [State.lineIdle]
@[simp] theorem State.lineIdle_restartDeaf (s : State) : (s.lineIdle).restartDeaf = s.restartDeaf := by simp [State.lineIdle]
@[simp] theorem State.lineIdle_entries (s : State) : (s.lineIdle).entries = s.entries := by simp [State.lineIdle]
@[simp] theorem State.lineIdle_order (s : State) : (s.lineIdle).order = s.order := by simp [State.lineIdle]
@[simp] theorem State.lineIdle_spent (s : State) : (s.lineIdle).spent = s.spent := by simp [State.lineIdle]
@[simp] theorem State.lineIdle_timing (s : State) : (s.lineIdle).timing = s.timing := by simp [State.lineIdle]
@[simp] theorem State.lineIdle_stations (s : State) : (s.lineIdle).stations = s.stations := by simp [State.lineIdle]
@[simp] theorem State.lineIdle_mgmtAddr (s : State) : (s.lineIdle).mgmtAddr = s.mgmtAddr := by simp [State.lineIdle]
@[simp] theorem State.lineIdle_stepTimer (s : State) : (s.lineIdle).stepTimer = s.stepTimer := by simp [State.lineIdle]
@[simp] theorem State.lineIdle_handler (s : State) : (s.lineIdle).handler = s.handler := by simp [State.lineIdle]
@[simp] theorem State.lineIdle_policy (s : State) : (s.lineIdle).policy = s.policy := by simp [State.lineIdle]
@[simp] theorem State.lineIdle_forwarding (s : State) : (s.lineIdle).forwarding = s.forwarding := by simp [State.lineIdle]
@[simp] theorem State.lineIdle_mode (s : State) : (s.lineIdle).mode = s.mode := by simp [State.lineIdle]
@[simp] theorem State.lineIdle_factors (s : State) : (s.lineIdle).factors = s.factors := by simp [State.lineIdle]
@[simp] theorem State.lineIdle_memory (s : State) : (s.lineIdle).memory = s.memory := by simp [State.lineIdle]
@[simp] theorem State.lineIdle_pending (s : State) : (s.lineIdle).pending = s.pending := by simp [State.lineIdle]

/-! What the changed fields become. -/

@[simp] theorem State.silence_handler (s : State) : s.silence.handler = .idle := rfl
@[simp] theorem State.forgetMemory_memory (s : State) : s.forgetMemory.memory = none := rfl
@[simp] theorem State.sendAnswer_handler (m : AnswerMark) (f : FrameRecord) (s : State) :
    (s.sendAnswer m f).handler = .answering m := rfl
@[simp] theorem State.sendAnswer_u (m : AnswerMark) (f : FrameRecord) (s : State) :
    (s.sendAnswer m f).u = { s.u with tx := .waiting f } := rfl
@[simp] theorem State.beginTaking_u (f : FrameRecord) (s : State) :
    (s.beginTaking f).u = { s.u with slot := none } := rfl
@[simp] theorem State.beginTaking_handler (f : FrameRecord) (s : State) : (s.beginTaking f).handler = .deciding f := rfl
@[simp] theorem State.lineIdle_line (s : State) : s.lineIdle.line = .idle := by simp [State.lineIdle]
@[simp] theorem State.withdrawFrame_isWaiting (s : State) : s.withdrawFrame.d.tx.isWaiting = false := by
  unfold State.withdrawFrame
  split
  · rfl
  · next h => simpa using h
@[simp] theorem State.handOver_u_u (f : FrameRecord) (s : State) : (s.handOver .u f).u = { s.u with tx := .waiting f } := rfl
@[simp] theorem State.handOver_u_d (f : FrameRecord) (s : State) : (s.handOver .u f).d = s.d := rfl
@[simp] theorem State.handOver_d_d (f : FrameRecord) (s : State) : (s.handOver .d f).d = { s.d with tx := .waiting f } := rfl
@[simp] theorem State.handOver_d_u (f : FrameRecord) (s : State) : (s.handOver .d f).u = s.u := rfl
@[simp] theorem State.settleDSettings_d_slot (s : State) : s.settleDSettings.d.slot = s.d.slot := by
  unfold State.settleDSettings; split <;> rfl
@[simp] theorem State.settleDSettings_d_tx (s : State) : s.settleDSettings.d.tx = s.d.tx := by
  unfold State.settleDSettings; split <;> rfl
@[simp] theorem State.settleDSettings_d_counters (s : State) : s.settleDSettings.d.counters = s.d.counters := by
  unfold State.settleDSettings; split <;> rfl

end Sys2Proof.Machine
end

