-- ==== Sys2Proof/Laws/Tables.lean ====
section
/-! SUPPORT. Reading after writing: counters, station records, entries, factors, the frame on the line. -/

namespace Sys2Proof.Machine

/-! ### Counters (R33, R83) -/

theorem countUp_le (n : Nat) (h : n ≤ Config.counterMax) : countUp n ≤ Config.counterMax := by
  unfold countUp; split <;> omega

theorem countUp_of_lt (n : Nat) (h : n < Config.counterMax) : countUp n = n + 1 := by
  simp [countUp, h]

theorem countUp_at_max : countUp Config.counterMax = Config.counterMax := by
  simp [countUp]

theorem PortCounters.get_bump (c : PortCounters) (x y : PortCounter) :
    (c.bump x).get y = if y = x then countUp (c.get x) else c.get y := by
  cases x <;> cases y <;> rfl

theorem StationCounters.get_bump (c : StationCounters) (x y : StationCounter) :
    (c.bump x).get y = if y = x then countUp (c.get x) else c.get y := by
  cases x <;> cases y <;> rfl

@[simp] theorem PortCounters.get_zero (y : PortCounter) : PortCounters.zero.get y = 0 := by cases y <;> rfl
@[simp] theorem StationCounters.get_zero (y : StationCounter) : StationCounters.zero.get y = 0 := by cases y <;> rfl

/-! ### Station records -/

theorem isStation_iff (a : Nat) : isStation a = true ↔ 1 ≤ a ∧ a ≤ 126 := by
  simp [isStation]

/-- A record after a change: the changed one, or as before. -/
theorem State.stationAt_updateStation (s : State) (a b : Nat) (g : StationRecord → StationRecord)
    (hs : s.stations.length = Config.stationCount) (ha : isStation a = true) (hb : isStation b = true) :
    (s.updateStation a g).stationAt b = if b = a then g (s.stationAt a) else s.stationAt b := by
  have ha' := (isStation_iff a).1 ha
  have hb' := (isStation_iff b).1 hb
  have hl : a - 1 < s.stations.length := by rw [hs]; simp [Config.stationCount]; omega
  simp only [State.updateStation, State.stationAt, ha, hb, if_true]
  by_cases h : b = a
  · subst h
    simp [List.getD_eq_getElem?_getD, hl]
  · have : a - 1 ≠ b - 1 := by omega
    simp [List.getD_eq_getElem?_getD, h, this]

/-- Whatever the tables' sizes, a record after a change of record a is as before or is record a, changed. -/
theorem State.stationAt_updateStation_or (s : State) (a b : Nat) (g : StationRecord → StationRecord) :
    (s.updateStation a g).stationAt b = s.stationAt b ∨
      (b = a ∧ isStation a = true ∧ (s.updateStation a g).stationAt b = g (s.stationAt a)) := by
  by_cases ha : isStation a = true
  · by_cases hb : isStation b = true
    · have ha' := (isStation_iff a).1 ha
      have hb' := (isStation_iff b).1 hb
      simp only [State.updateStation, State.stationAt, ha, hb, if_true]
      by_cases h : b = a
      · subst h
        by_cases hl : b - 1 < s.stations.length
        · right; simp [List.getD_eq_getElem?_getD, hl]
        · left; simp [List.getD_eq_getElem?_getD, hl]
      · left
        have : a - 1 ≠ b - 1 := by omega
        simp [List.getD_eq_getElem?_getD, this]
    · left; simp [State.stationAt, hb]
  · left; simp [State.updateStation, ha]

@[simp] theorem State.stations_length_updateStation (s : State) (a : Nat) (g : StationRecord → StationRecord) :
    (s.updateStation a g).stations.length = s.stations.length := by
  unfold State.updateStation; split <;> simp

/-! ### Entries -/

theorem State.entryAt_setEntry (s : State) (i j : Nat) (x : Exchange) (h : i < s.entries.length) :
    (s.setEntry i x).entryAt j = if j = i then some x else s.entryAt j := by
  by_cases hj : j = i
  · subst hj; simp [State.entryAt, State.setEntry, List.getD_eq_getElem?_getD, h]
  · simp [State.entryAt, State.setEntry, List.getD_eq_getElem?_getD, hj, Ne.symm hj]

theorem State.entryAt_freeEntry (s : State) (i j : Nat) :
    (s.freeEntry i).entryAt j = if j = i then none else s.entryAt j := by
  by_cases hj : j = i
  · subst hj
    simp only [State.entryAt, State.freeEntry, List.getD_eq_getElem?_getD, List.getElem?_set, if_true]
    split <;> simp
  · simp [State.entryAt, State.freeEntry, List.getD_eq_getElem?_getD, hj, Ne.symm hj]

theorem State.mem_order_freeEntry (s : State) (i j : Nat) : j ∈ (s.freeEntry i).order ↔ j ∈ s.order ∧ j ≠ i := by
  simp [State.freeEntry]

theorem State.lt_of_entryAt (s : State) (i : Nat) (x : Exchange) (h : s.entryAt i = some x) : i < s.entries.length := by
  by_contra hc
  simp [State.entryAt, List.getD_eq_getElem?_getD, List.getElem?_eq_none (Nat.le_of_not_lt hc)] at h

/-- The live entry found for a key is live and holds it (R40). -/
theorem State.liveEntry_some (s : State) (k : Key) (i : Nat) (h : s.liveEntry k = some i) :
    ∃ x, s.entryAt i = some x ∧ x.isLive = true ∧ x.key = k := by
  unfold State.liveEntry at h
  rw [List.findIdx?_eq_some_iff_getElem] at h
  obtain ⟨hi, hp, -⟩ := h
  cases hx : s.entries[i] with
  | none => simp [hx] at hp
  | some x =>
    simp [hx] at hp
    exact ⟨x, by simp [State.entryAt, List.getD_eq_getElem?_getD, hi, hx], hp.1, hp.2⟩

/-- When no live entry is found for a key, no live entry holds it (R40). -/
theorem State.liveEntry_none (s : State) (k : Key) (h : s.liveEntry k = none) (i : Nat) (x : Exchange)
    (hx : s.entryAt i = some x) (hl : x.isLive = true) : x.key ≠ k := by
  intro hk
  have hi := s.lt_of_entryAt i x hx
  unfold State.liveEntry at h
  rw [List.findIdx?_eq_none_iff] at h
  have hmem : some x ∈ s.entries := by
    have : s.entries[i] = some x := by
      simpa [State.entryAt, List.getD_eq_getElem?_getD, hi] using hx
    exact this ▸ List.getElem_mem hi
  have := h _ hmem
  simp [hl, hk] at this

/-- The FREE entry found is FREE, and every lower one is taken (R43). -/
theorem State.freeIndex_some (s : State) (i : Nat) (h : s.freeIndex = some i) :
    i < s.entries.length ∧ s.entryAt i = none ∧ ∀ j, j < i → s.entryAt j ≠ none := by
  unfold State.freeIndex at h
  rw [List.findIdx?_eq_some_iff_getElem] at h
  obtain ⟨hi, hp, hlow⟩ := h
  refine ⟨hi, ?_, ?_⟩
  · cases hx : s.entries[i] with
    | none => simp [State.entryAt, List.getD_eq_getElem?_getD, hi, hx]
    | some x => simp [hx] at hp
  · intro j hj hn
    have hlt : j < s.entries.length := Nat.lt_trans hj hi
    have := hlow j hj
    rw [State.entryAt, List.getD_eq_getElem?_getD] at hn
    simp [hlt] at hn
    simp [hn] at this

/-! ### Factors (R149, R150) -/

theorem State.factorAt_raise (s : State) (f : Factor) (code : Nat) (hc : 1 ≤ code) :
    (s.raise f).factorAt code =
      if code = f.code ∧ f.code - 1 < s.factors.length then { s.factorAt code with pending := true }
      else s.factorAt code := by
  have hf : 1 ≤ f.code := by cases f <;> decide
  by_cases h : code = f.code
  · subst h
    by_cases hl : f.code - 1 < s.factors.length
    · simp [State.raise, State.factorAt, List.getD_eq_getElem?_getD, hl]
    · simp [State.raise, State.factorAt, List.getD_eq_getElem?_getD, hl]
  · have : f.code - 1 ≠ code - 1 := by omega
    simp [State.raise, State.factorAt, List.getD_eq_getElem?_getD, h, this]

@[simp] theorem State.factors_length_raise (s : State) (f : Factor) : (s.raise f).factors.length = s.factors.length := by
  simp [State.raise]

/-! ### Settings that wait for the D line (R36) -/

/-- The D port's settings change only in the one way R36 gives, or not at all. -/
theorem State.settleDSettings_cases (s : State) :
    s.settleDSettings = s ∨
      (s.d.pendingFlag = true ∧ s.dChangeDue = true ∧ s.lineFree = true ∧
        s.settleDSettings = { s with d := s.d.applyPending, dChangeDue := false }) := by
  unfold State.settleDSettings
  split
  · next h =>
    simp only [Bool.and_eq_true] at h
    exact .inr ⟨h.1.1, h.1.2, h.2, rfl⟩
  · exact .inl rfl

@[simp] theorem State.entryAt_settleDSettings (s : State) (i : Nat) : s.settleDSettings.entryAt i = s.entryAt i := by
  simp [State.entryAt]

@[simp] theorem State.entryAt_lineIdle (s : State) (i : Nat) : s.lineIdle.entryAt i = s.entryAt i := by
  simp [State.entryAt]

end Sys2Proof.Machine
end

