-- ==== Sys2Proof/Laws/Exchange.lean ====
section
/-! SUPPORT. What each shared operation on an exchange leaves unchanged, and the one thing each does to the fields it is for. -/

namespace Sys2Proof.Machine

/-! `admitInto` (R43) -/

@[simp] theorem State.admitInto_pins (i : Nat) (f : FrameRecord) (s : State) : (s.admitInto i f).pins = s.pins := by unfold State.admitInto; dsimp only; split <;> simp
@[simp] theorem State.admitInto_u (i : Nat) (f : FrameRecord) (s : State) : (s.admitInto i f).u = s.u := by unfold State.admitInto; dsimp only; split <;> simp
@[simp] theorem State.admitInto_restartDeaf (i : Nat) (f : FrameRecord) (s : State) : (s.admitInto i f).restartDeaf = s.restartDeaf := by unfold State.admitInto; dsimp only; split <;> simp
@[simp] theorem State.admitInto_timing (i : Nat) (f : FrameRecord) (s : State) : (s.admitInto i f).timing = s.timing := by unfold State.admitInto; dsimp only; split <;> simp
@[simp] theorem State.admitInto_mgmtAddr (i : Nat) (f : FrameRecord) (s : State) : (s.admitInto i f).mgmtAddr = s.mgmtAddr := by unfold State.admitInto; dsimp only; split <;> simp
@[simp] theorem State.admitInto_stepTimer (i : Nat) (f : FrameRecord) (s : State) : (s.admitInto i f).stepTimer = s.stepTimer := by unfold State.admitInto; dsimp only; split <;> simp
@[simp] theorem State.admitInto_handler (i : Nat) (f : FrameRecord) (s : State) : (s.admitInto i f).handler = s.handler := by unfold State.admitInto; dsimp only; split <;> simp
@[simp] theorem State.admitInto_policy (i : Nat) (f : FrameRecord) (s : State) : (s.admitInto i f).policy = s.policy := by unfold State.admitInto; dsimp only; split <;> simp
@[simp] theorem State.admitInto_forwarding (i : Nat) (f : FrameRecord) (s : State) : (s.admitInto i f).forwarding = s.forwarding := by unfold State.admitInto; dsimp only; split <;> simp
@[simp] theorem State.admitInto_mode (i : Nat) (f : FrameRecord) (s : State) : (s.admitInto i f).mode = s.mode := by unfold State.admitInto; dsimp only; split <;> simp
@[simp] theorem State.admitInto_memory (i : Nat) (f : FrameRecord) (s : State) : (s.admitInto i f).memory = s.memory := by unfold State.admitInto; dsimp only; split <;> simp
@[simp] theorem State.admitInto_pending (i : Nat) (f : FrameRecord) (s : State) : (s.admitInto i f).pending = s.pending := by unfold State.admitInto; dsimp only; split <;> simp

/-! `sendAttempt` (R44) -/

@[simp] theorem State.sendAttempt_pins (i : Nat) (x : Exchange) (a : Nat) (s : State) : (s.sendAttempt i x a).pins = s.pins := by simp [State.sendAttempt]
@[simp] theorem State.sendAttempt_u (i : Nat) (x : Exchange) (a : Nat) (s : State) : (s.sendAttempt i x a).u = s.u := by simp [State.sendAttempt]
@[simp] theorem State.sendAttempt_restartDeaf (i : Nat) (x : Exchange) (a : Nat) (s : State) : (s.sendAttempt i x a).restartDeaf = s.restartDeaf := by simp [State.sendAttempt]
@[simp] theorem State.sendAttempt_timing (i : Nat) (x : Exchange) (a : Nat) (s : State) : (s.sendAttempt i x a).timing = s.timing := by simp [State.sendAttempt]
@[simp] theorem State.sendAttempt_mgmtAddr (i : Nat) (x : Exchange) (a : Nat) (s : State) : (s.sendAttempt i x a).mgmtAddr = s.mgmtAddr := by simp [State.sendAttempt]
@[simp] theorem State.sendAttempt_stepTimer (i : Nat) (x : Exchange) (a : Nat) (s : State) : (s.sendAttempt i x a).stepTimer = s.stepTimer := by simp [State.sendAttempt]
@[simp] theorem State.sendAttempt_handler (i : Nat) (x : Exchange) (a : Nat) (s : State) : (s.sendAttempt i x a).handler = s.handler := by simp [State.sendAttempt]
@[simp] theorem State.sendAttempt_policy (i : Nat) (x : Exchange) (a : Nat) (s : State) : (s.sendAttempt i x a).policy = s.policy := by simp [State.sendAttempt]
@[simp] theorem State.sendAttempt_forwarding (i : Nat) (x : Exchange) (a : Nat) (s : State) : (s.sendAttempt i x a).forwarding = s.forwarding := by simp [State.sendAttempt]
@[simp] theorem State.sendAttempt_mode (i : Nat) (x : Exchange) (a : Nat) (s : State) : (s.sendAttempt i x a).mode = s.mode := by simp [State.sendAttempt]
@[simp] theorem State.sendAttempt_memory (i : Nat) (x : Exchange) (a : Nat) (s : State) : (s.sendAttempt i x a).memory = s.memory := by simp [State.sendAttempt]
@[simp] theorem State.sendAttempt_pending (i : Nat) (x : Exchange) (a : Nat) (s : State) : (s.sendAttempt i x a).pending = s.pending := by simp [State.sendAttempt]

/-! `learnDownstream` (R81) -/

@[simp] theorem State.learnDownstream_pins (a : Nat) (s : State) : (s.learnDownstream a).pins = s.pins := by unfold State.learnDownstream; split <;> (try split) <;> simp
@[simp] theorem State.learnDownstream_u (a : Nat) (s : State) : (s.learnDownstream a).u = s.u := by unfold State.learnDownstream; split <;> (try split) <;> simp
@[simp] theorem State.learnDownstream_restartDeaf (a : Nat) (s : State) : (s.learnDownstream a).restartDeaf = s.restartDeaf := by unfold State.learnDownstream; split <;> (try split) <;> simp
@[simp] theorem State.learnDownstream_timing (a : Nat) (s : State) : (s.learnDownstream a).timing = s.timing := by unfold State.learnDownstream; split <;> (try split) <;> simp
@[simp] theorem State.learnDownstream_mgmtAddr (a : Nat) (s : State) : (s.learnDownstream a).mgmtAddr = s.mgmtAddr := by unfold State.learnDownstream; split <;> (try split) <;> simp
@[simp] theorem State.learnDownstream_stepTimer (a : Nat) (s : State) : (s.learnDownstream a).stepTimer = s.stepTimer := by unfold State.learnDownstream; split <;> (try split) <;> simp
@[simp] theorem State.learnDownstream_handler (a : Nat) (s : State) : (s.learnDownstream a).handler = s.handler := by unfold State.learnDownstream; split <;> (try split) <;> simp
@[simp] theorem State.learnDownstream_policy (a : Nat) (s : State) : (s.learnDownstream a).policy = s.policy := by unfold State.learnDownstream; split <;> (try split) <;> simp
@[simp] theorem State.learnDownstream_forwarding (a : Nat) (s : State) : (s.learnDownstream a).forwarding = s.forwarding := by unfold State.learnDownstream; split <;> (try split) <;> simp
@[simp] theorem State.learnDownstream_mode (a : Nat) (s : State) : (s.learnDownstream a).mode = s.mode := by unfold State.learnDownstream; split <;> (try split) <;> simp
@[simp] theorem State.learnDownstream_memory (a : Nat) (s : State) : (s.learnDownstream a).memory = s.memory := by unfold State.learnDownstream; split <;> (try split) <;> simp
@[simp] theorem State.learnDownstream_pending (a : Nat) (s : State) : (s.learnDownstream a).pending = s.pending := by unfold State.learnDownstream; split <;> (try split) <;> simp

/-! `settlePosted` (R46) -/

@[simp] theorem State.settlePosted_pins (i a : Nat) (k : Kind) (s : State) : (s.settlePosted i a k).pins = s.pins := by unfold State.settlePosted; dsimp only; split <;> simp
@[simp] theorem State.settlePosted_u (i a : Nat) (k : Kind) (s : State) : (s.settlePosted i a k).u = s.u := by unfold State.settlePosted; dsimp only; split <;> simp
@[simp] theorem State.settlePosted_restartDeaf (i a : Nat) (k : Kind) (s : State) : (s.settlePosted i a k).restartDeaf = s.restartDeaf := by unfold State.settlePosted; dsimp only; split <;> simp
@[simp] theorem State.settlePosted_timing (i a : Nat) (k : Kind) (s : State) : (s.settlePosted i a k).timing = s.timing := by unfold State.settlePosted; dsimp only; split <;> simp
@[simp] theorem State.settlePosted_mgmtAddr (i a : Nat) (k : Kind) (s : State) : (s.settlePosted i a k).mgmtAddr = s.mgmtAddr := by unfold State.settlePosted; dsimp only; split <;> simp
@[simp] theorem State.settlePosted_stepTimer (i a : Nat) (k : Kind) (s : State) : (s.settlePosted i a k).stepTimer = s.stepTimer := by unfold State.settlePosted; dsimp only; split <;> simp
@[simp] theorem State.settlePosted_handler (i a : Nat) (k : Kind) (s : State) : (s.settlePosted i a k).handler = s.handler := by unfold State.settlePosted; dsimp only; split <;> simp
@[simp] theorem State.settlePosted_policy (i a : Nat) (k : Kind) (s : State) : (s.settlePosted i a k).policy = s.policy := by unfold State.settlePosted; dsimp only; split <;> simp
@[simp] theorem State.settlePosted_forwarding (i a : Nat) (k : Kind) (s : State) : (s.settlePosted i a k).forwarding = s.forwarding := by unfold State.settlePosted; dsimp only; split <;> simp
@[simp] theorem State.settlePosted_mode (i a : Nat) (k : Kind) (s : State) : (s.settlePosted i a k).mode = s.mode := by unfold State.settlePosted; dsimp only; split <;> simp
@[simp] theorem State.settlePosted_memory (i a : Nat) (k : Kind) (s : State) : (s.settlePosted i a k).memory = s.memory := by unfold State.settlePosted; dsimp only; split <;> simp
@[simp] theorem State.settlePosted_pending (i a : Nat) (k : Kind) (s : State) : (s.settlePosted i a k).pending = s.pending := by unfold State.settlePosted; dsimp only; split <;> simp

/-! `settleReady` (R45) -/

@[simp] theorem State.settleReady_pins (i : Nat) (x : Exchange) (o : HeldOutcome) (s : State) : (s.settleReady i x o).pins = s.pins := by simp [State.settleReady]
@[simp] theorem State.settleReady_u (i : Nat) (x : Exchange) (o : HeldOutcome) (s : State) : (s.settleReady i x o).u = s.u := by simp [State.settleReady]
@[simp] theorem State.settleReady_restartDeaf (i : Nat) (x : Exchange) (o : HeldOutcome) (s : State) : (s.settleReady i x o).restartDeaf = s.restartDeaf := by simp [State.settleReady]
@[simp] theorem State.settleReady_timing (i : Nat) (x : Exchange) (o : HeldOutcome) (s : State) : (s.settleReady i x o).timing = s.timing := by simp [State.settleReady]
@[simp] theorem State.settleReady_mgmtAddr (i : Nat) (x : Exchange) (o : HeldOutcome) (s : State) : (s.settleReady i x o).mgmtAddr = s.mgmtAddr := by simp [State.settleReady]
@[simp] theorem State.settleReady_stepTimer (i : Nat) (x : Exchange) (o : HeldOutcome) (s : State) : (s.settleReady i x o).stepTimer = s.stepTimer := by simp [State.settleReady]
@[simp] theorem State.settleReady_handler (i : Nat) (x : Exchange) (o : HeldOutcome) (s : State) : (s.settleReady i x o).handler = s.handler := by simp [State.settleReady]
@[simp] theorem State.settleReady_policy (i : Nat) (x : Exchange) (o : HeldOutcome) (s : State) : (s.settleReady i x o).policy = s.policy := by simp [State.settleReady]
@[simp] theorem State.settleReady_forwarding (i : Nat) (x : Exchange) (o : HeldOutcome) (s : State) : (s.settleReady i x o).forwarding = s.forwarding := by simp [State.settleReady]
@[simp] theorem State.settleReady_mode (i : Nat) (x : Exchange) (o : HeldOutcome) (s : State) : (s.settleReady i x o).mode = s.mode := by simp [State.settleReady]
@[simp] theorem State.settleReady_memory (i : Nat) (x : Exchange) (o : HeldOutcome) (s : State) : (s.settleReady i x o).memory = s.memory := by simp [State.settleReady]
@[simp] theorem State.settleReady_pending (i : Nat) (x : Exchange) (o : HeldOutcome) (s : State) : (s.settleReady i x o).pending = s.pending := by simp [State.settleReady]

/-! `settle` (R122) -/

@[simp] theorem State.settle_pins (i : Nat) (x : Exchange) (o : HeldOutcome) (s : State) : (s.settle i x o).pins = s.pins := by unfold State.settle; dsimp only; split <;> split <;> simp
@[simp] theorem State.settle_u (i : Nat) (x : Exchange) (o : HeldOutcome) (s : State) : (s.settle i x o).u = s.u := by unfold State.settle; dsimp only; split <;> split <;> simp
@[simp] theorem State.settle_restartDeaf (i : Nat) (x : Exchange) (o : HeldOutcome) (s : State) : (s.settle i x o).restartDeaf = s.restartDeaf := by unfold State.settle; dsimp only; split <;> split <;> simp
@[simp] theorem State.settle_timing (i : Nat) (x : Exchange) (o : HeldOutcome) (s : State) : (s.settle i x o).timing = s.timing := by unfold State.settle; dsimp only; split <;> split <;> simp
@[simp] theorem State.settle_mgmtAddr (i : Nat) (x : Exchange) (o : HeldOutcome) (s : State) : (s.settle i x o).mgmtAddr = s.mgmtAddr := by unfold State.settle; dsimp only; split <;> split <;> simp
@[simp] theorem State.settle_stepTimer (i : Nat) (x : Exchange) (o : HeldOutcome) (s : State) : (s.settle i x o).stepTimer = s.stepTimer := by unfold State.settle; dsimp only; split <;> split <;> simp
@[simp] theorem State.settle_handler (i : Nat) (x : Exchange) (o : HeldOutcome) (s : State) : (s.settle i x o).handler = s.handler := by unfold State.settle; dsimp only; split <;> split <;> simp
@[simp] theorem State.settle_policy (i : Nat) (x : Exchange) (o : HeldOutcome) (s : State) : (s.settle i x o).policy = s.policy := by unfold State.settle; dsimp only; split <;> split <;> simp
@[simp] theorem State.settle_forwarding (i : Nat) (x : Exchange) (o : HeldOutcome) (s : State) : (s.settle i x o).forwarding = s.forwarding := by unfold State.settle; dsimp only; split <;> split <;> simp
@[simp] theorem State.settle_mode (i : Nat) (x : Exchange) (o : HeldOutcome) (s : State) : (s.settle i x o).mode = s.mode := by unfold State.settle; dsimp only; split <;> split <;> simp
@[simp] theorem State.settle_memory (i : Nat) (x : Exchange) (o : HeldOutcome) (s : State) : (s.settle i x o).memory = s.memory := by unfold State.settle; dsimp only; split <;> split <;> simp
@[simp] theorem State.settle_pending (i : Nat) (x : Exchange) (o : HeldOutcome) (s : State) : (s.settle i x o).pending = s.pending := by unfold State.settle; dsimp only; split <;> split <;> simp

/-! `settleSilent` (R123, R128) -/

@[simp] theorem State.settleSilent_pins (i : Nat) (x : Exchange) (s : State) : (s.settleSilent i x).pins = s.pins := by simp [State.settleSilent]
@[simp] theorem State.settleSilent_u (i : Nat) (x : Exchange) (s : State) : (s.settleSilent i x).u = s.u := by simp [State.settleSilent]
@[simp] theorem State.settleSilent_restartDeaf (i : Nat) (x : Exchange) (s : State) : (s.settleSilent i x).restartDeaf = s.restartDeaf := by simp [State.settleSilent]
@[simp] theorem State.settleSilent_timing (i : Nat) (x : Exchange) (s : State) : (s.settleSilent i x).timing = s.timing := by simp [State.settleSilent]
@[simp] theorem State.settleSilent_mgmtAddr (i : Nat) (x : Exchange) (s : State) : (s.settleSilent i x).mgmtAddr = s.mgmtAddr := by simp [State.settleSilent]
@[simp] theorem State.settleSilent_stepTimer (i : Nat) (x : Exchange) (s : State) : (s.settleSilent i x).stepTimer = s.stepTimer := by simp [State.settleSilent]
@[simp] theorem State.settleSilent_handler (i : Nat) (x : Exchange) (s : State) : (s.settleSilent i x).handler = s.handler := by simp [State.settleSilent]
@[simp] theorem State.settleSilent_policy (i : Nat) (x : Exchange) (s : State) : (s.settleSilent i x).policy = s.policy := by simp [State.settleSilent]
@[simp] theorem State.settleSilent_forwarding (i : Nat) (x : Exchange) (s : State) : (s.settleSilent i x).forwarding = s.forwarding := by simp [State.settleSilent]
@[simp] theorem State.settleSilent_mode (i : Nat) (x : Exchange) (s : State) : (s.settleSilent i x).mode = s.mode := by simp [State.settleSilent]
@[simp] theorem State.settleSilent_memory (i : Nat) (x : Exchange) (s : State) : (s.settleSilent i x).memory = s.memory := by simp [State.settleSilent]
@[simp] theorem State.settleSilent_pending (i : Nat) (x : Exchange) (s : State) : (s.settleSilent i x).pending = s.pending := by simp [State.settleSilent]

/-! `farTurnedAway` (R123) -/

@[simp] theorem State.farTurnedAway_pins (i : Nat) (x : Exchange) (s : State) : (s.farTurnedAway i x).pins = s.pins := by unfold State.farTurnedAway; split <;> simp
@[simp] theorem State.farTurnedAway_u (i : Nat) (x : Exchange) (s : State) : (s.farTurnedAway i x).u = s.u := by unfold State.farTurnedAway; split <;> simp
@[simp] theorem State.farTurnedAway_restartDeaf (i : Nat) (x : Exchange) (s : State) : (s.farTurnedAway i x).restartDeaf = s.restartDeaf := by unfold State.farTurnedAway; split <;> simp
@[simp] theorem State.farTurnedAway_timing (i : Nat) (x : Exchange) (s : State) : (s.farTurnedAway i x).timing = s.timing := by unfold State.farTurnedAway; split <;> simp
@[simp] theorem State.farTurnedAway_mgmtAddr (i : Nat) (x : Exchange) (s : State) : (s.farTurnedAway i x).mgmtAddr = s.mgmtAddr := by unfold State.farTurnedAway; split <;> simp
@[simp] theorem State.farTurnedAway_stepTimer (i : Nat) (x : Exchange) (s : State) : (s.farTurnedAway i x).stepTimer = s.stepTimer := by unfold State.farTurnedAway; split <;> simp
@[simp] theorem State.farTurnedAway_handler (i : Nat) (x : Exchange) (s : State) : (s.farTurnedAway i x).handler = s.handler := by unfold State.farTurnedAway; split <;> simp
@[simp] theorem State.farTurnedAway_policy (i : Nat) (x : Exchange) (s : State) : (s.farTurnedAway i x).policy = s.policy := by unfold State.farTurnedAway; split <;> simp
@[simp] theorem State.farTurnedAway_forwarding (i : Nat) (x : Exchange) (s : State) : (s.farTurnedAway i x).forwarding = s.forwarding := by unfold State.farTurnedAway; split <;> simp
@[simp] theorem State.farTurnedAway_mode (i : Nat) (x : Exchange) (s : State) : (s.farTurnedAway i x).mode = s.mode := by unfold State.farTurnedAway; split <;> simp
@[simp] theorem State.farTurnedAway_memory (i : Nat) (x : Exchange) (s : State) : (s.farTurnedAway i x).memory = s.memory := by unfold State.farTurnedAway; split <;> simp
@[simp] theorem State.farTurnedAway_pending (i : Nat) (x : Exchange) (s : State) : (s.farTurnedAway i x).pending = s.pending := by unfold State.farTurnedAway; split <;> simp

/-! `actOnAnswer` (R121) -/

@[simp] theorem State.actOnAnswer_pins (i : Nat) (x : Exchange) (f : FrameRecord) (s : State) : (s.actOnAnswer i x f).pins = s.pins := by unfold State.actOnAnswer; split <;> simp
@[simp] theorem State.actOnAnswer_u (i : Nat) (x : Exchange) (f : FrameRecord) (s : State) : (s.actOnAnswer i x f).u = s.u := by unfold State.actOnAnswer; split <;> simp
@[simp] theorem State.actOnAnswer_restartDeaf (i : Nat) (x : Exchange) (f : FrameRecord) (s : State) : (s.actOnAnswer i x f).restartDeaf = s.restartDeaf := by unfold State.actOnAnswer; split <;> simp
@[simp] theorem State.actOnAnswer_timing (i : Nat) (x : Exchange) (f : FrameRecord) (s : State) : (s.actOnAnswer i x f).timing = s.timing := by unfold State.actOnAnswer; split <;> simp
@[simp] theorem State.actOnAnswer_mgmtAddr (i : Nat) (x : Exchange) (f : FrameRecord) (s : State) : (s.actOnAnswer i x f).mgmtAddr = s.mgmtAddr := by unfold State.actOnAnswer; split <;> simp
@[simp] theorem State.actOnAnswer_stepTimer (i : Nat) (x : Exchange) (f : FrameRecord) (s : State) : (s.actOnAnswer i x f).stepTimer = s.stepTimer := by unfold State.actOnAnswer; split <;> simp
@[simp] theorem State.actOnAnswer_handler (i : Nat) (x : Exchange) (f : FrameRecord) (s : State) : (s.actOnAnswer i x f).handler = s.handler := by unfold State.actOnAnswer; split <;> simp
@[simp] theorem State.actOnAnswer_policy (i : Nat) (x : Exchange) (f : FrameRecord) (s : State) : (s.actOnAnswer i x f).policy = s.policy := by unfold State.actOnAnswer; split <;> simp
@[simp] theorem State.actOnAnswer_forwarding (i : Nat) (x : Exchange) (f : FrameRecord) (s : State) : (s.actOnAnswer i x f).forwarding = s.forwarding := by unfold State.actOnAnswer; split <;> simp
@[simp] theorem State.actOnAnswer_mode (i : Nat) (x : Exchange) (f : FrameRecord) (s : State) : (s.actOnAnswer i x f).mode = s.mode := by unfold State.actOnAnswer; split <;> simp
@[simp] theorem State.actOnAnswer_memory (i : Nat) (x : Exchange) (f : FrameRecord) (s : State) : (s.actOnAnswer i x f).memory = s.memory := by unfold State.actOnAnswer; split <;> simp
@[simp] theorem State.actOnAnswer_pending (i : Nat) (x : Exchange) (f : FrameRecord) (s : State) : (s.actOnAnswer i x f).pending = s.pending := by unfold State.actOnAnswer; split <;> simp

/-! `takeMatching` (R121) -/

@[simp] theorem State.takeMatching_pins (i : Nat) (x : Exchange) (f : FrameRecord) (s : State) : (s.takeMatching i x f).pins = s.pins := by unfold State.takeMatching; dsimp only; split <;> split <;> simp
@[simp] theorem State.takeMatching_u (i : Nat) (x : Exchange) (f : FrameRecord) (s : State) : (s.takeMatching i x f).u = s.u := by unfold State.takeMatching; dsimp only; split <;> split <;> simp
@[simp] theorem State.takeMatching_restartDeaf (i : Nat) (x : Exchange) (f : FrameRecord) (s : State) : (s.takeMatching i x f).restartDeaf = s.restartDeaf := by unfold State.takeMatching; dsimp only; split <;> split <;> simp
@[simp] theorem State.takeMatching_timing (i : Nat) (x : Exchange) (f : FrameRecord) (s : State) : (s.takeMatching i x f).timing = s.timing := by unfold State.takeMatching; dsimp only; split <;> split <;> simp
@[simp] theorem State.takeMatching_mgmtAddr (i : Nat) (x : Exchange) (f : FrameRecord) (s : State) : (s.takeMatching i x f).mgmtAddr = s.mgmtAddr := by unfold State.takeMatching; dsimp only; split <;> split <;> simp
@[simp] theorem State.takeMatching_stepTimer (i : Nat) (x : Exchange) (f : FrameRecord) (s : State) : (s.takeMatching i x f).stepTimer = s.stepTimer := by unfold State.takeMatching; dsimp only; split <;> split <;> simp
@[simp] theorem State.takeMatching_handler (i : Nat) (x : Exchange) (f : FrameRecord) (s : State) : (s.takeMatching i x f).handler = s.handler := by unfold State.takeMatching; dsimp only; split <;> split <;> simp
@[simp] theorem State.takeMatching_policy (i : Nat) (x : Exchange) (f : FrameRecord) (s : State) : (s.takeMatching i x f).policy = s.policy := by unfold State.takeMatching; dsimp only; split <;> split <;> simp
@[simp] theorem State.takeMatching_forwarding (i : Nat) (x : Exchange) (f : FrameRecord) (s : State) : (s.takeMatching i x f).forwarding = s.forwarding := by unfold State.takeMatching; dsimp only; split <;> split <;> simp
@[simp] theorem State.takeMatching_mode (i : Nat) (x : Exchange) (f : FrameRecord) (s : State) : (s.takeMatching i x f).mode = s.mode := by unfold State.takeMatching; dsimp only; split <;> split <;> simp
@[simp] theorem State.takeMatching_memory (i : Nat) (x : Exchange) (f : FrameRecord) (s : State) : (s.takeMatching i x f).memory = s.memory := by unfold State.takeMatching; dsimp only; split <;> split <;> simp
@[simp] theorem State.takeMatching_pending (i : Nat) (x : Exchange) (f : FrameRecord) (s : State) : (s.takeMatching i x f).pending = s.pending := by unfold State.takeMatching; dsimp only; split <;> split <;> simp

/-! `afterTimeout` (R128) -/

@[simp] theorem State.afterTimeout_pins (i : Nat) (x : Exchange) (a : Nat) (s : State) : (s.afterTimeout i x a).pins = s.pins := by unfold State.afterTimeout; split <;> (try split) <;> simp
@[simp] theorem State.afterTimeout_u (i : Nat) (x : Exchange) (a : Nat) (s : State) : (s.afterTimeout i x a).u = s.u := by unfold State.afterTimeout; split <;> (try split) <;> simp
@[simp] theorem State.afterTimeout_restartDeaf (i : Nat) (x : Exchange) (a : Nat) (s : State) : (s.afterTimeout i x a).restartDeaf = s.restartDeaf := by unfold State.afterTimeout; split <;> (try split) <;> simp
@[simp] theorem State.afterTimeout_timing (i : Nat) (x : Exchange) (a : Nat) (s : State) : (s.afterTimeout i x a).timing = s.timing := by unfold State.afterTimeout; split <;> (try split) <;> simp
@[simp] theorem State.afterTimeout_mgmtAddr (i : Nat) (x : Exchange) (a : Nat) (s : State) : (s.afterTimeout i x a).mgmtAddr = s.mgmtAddr := by unfold State.afterTimeout; split <;> (try split) <;> simp
@[simp] theorem State.afterTimeout_stepTimer (i : Nat) (x : Exchange) (a : Nat) (s : State) : (s.afterTimeout i x a).stepTimer = s.stepTimer := by unfold State.afterTimeout; split <;> (try split) <;> simp
@[simp] theorem State.afterTimeout_handler (i : Nat) (x : Exchange) (a : Nat) (s : State) : (s.afterTimeout i x a).handler = s.handler := by unfold State.afterTimeout; split <;> (try split) <;> simp
@[simp] theorem State.afterTimeout_policy (i : Nat) (x : Exchange) (a : Nat) (s : State) : (s.afterTimeout i x a).policy = s.policy := by unfold State.afterTimeout; split <;> (try split) <;> simp
@[simp] theorem State.afterTimeout_forwarding (i : Nat) (x : Exchange) (a : Nat) (s : State) : (s.afterTimeout i x a).forwarding = s.forwarding := by unfold State.afterTimeout; split <;> (try split) <;> simp
@[simp] theorem State.afterTimeout_mode (i : Nat) (x : Exchange) (a : Nat) (s : State) : (s.afterTimeout i x a).mode = s.mode := by unfold State.afterTimeout; split <;> (try split) <;> simp
@[simp] theorem State.afterTimeout_memory (i : Nat) (x : Exchange) (a : Nat) (s : State) : (s.afterTimeout i x a).memory = s.memory := by unfold State.afterTimeout; split <;> (try split) <;> simp
@[simp] theorem State.afterTimeout_pending (i : Nat) (x : Exchange) (a : Nat) (s : State) : (s.afterTimeout i x a).pending = s.pending := by unfold State.afterTimeout; split <;> (try split) <;> simp

/-! `timeoutEffect` (R127) -/

@[simp] theorem State.timeoutEffect_pins (i : Nat) (x : Exchange) (a : Nat) (s : State) : (s.timeoutEffect i x a).pins = s.pins := by unfold State.timeoutEffect; dsimp only; split <;> simp
@[simp] theorem State.timeoutEffect_u (i : Nat) (x : Exchange) (a : Nat) (s : State) : (s.timeoutEffect i x a).u = s.u := by unfold State.timeoutEffect; dsimp only; split <;> simp
@[simp] theorem State.timeoutEffect_restartDeaf (i : Nat) (x : Exchange) (a : Nat) (s : State) : (s.timeoutEffect i x a).restartDeaf = s.restartDeaf := by unfold State.timeoutEffect; dsimp only; split <;> simp
@[simp] theorem State.timeoutEffect_timing (i : Nat) (x : Exchange) (a : Nat) (s : State) : (s.timeoutEffect i x a).timing = s.timing := by unfold State.timeoutEffect; dsimp only; split <;> simp
@[simp] theorem State.timeoutEffect_mgmtAddr (i : Nat) (x : Exchange) (a : Nat) (s : State) : (s.timeoutEffect i x a).mgmtAddr = s.mgmtAddr := by unfold State.timeoutEffect; dsimp only; split <;> simp
@[simp] theorem State.timeoutEffect_stepTimer (i : Nat) (x : Exchange) (a : Nat) (s : State) : (s.timeoutEffect i x a).stepTimer = s.stepTimer := by unfold State.timeoutEffect; dsimp only; split <;> simp
@[simp] theorem State.timeoutEffect_handler (i : Nat) (x : Exchange) (a : Nat) (s : State) : (s.timeoutEffect i x a).handler = s.handler := by unfold State.timeoutEffect; dsimp only; split <;> simp
@[simp] theorem State.timeoutEffect_policy (i : Nat) (x : Exchange) (a : Nat) (s : State) : (s.timeoutEffect i x a).policy = s.policy := by unfold State.timeoutEffect; dsimp only; split <;> simp
@[simp] theorem State.timeoutEffect_forwarding (i : Nat) (x : Exchange) (a : Nat) (s : State) : (s.timeoutEffect i x a).forwarding = s.forwarding := by unfold State.timeoutEffect; dsimp only; split <;> simp
@[simp] theorem State.timeoutEffect_mode (i : Nat) (x : Exchange) (a : Nat) (s : State) : (s.timeoutEffect i x a).mode = s.mode := by unfold State.timeoutEffect; dsimp only; split <;> simp
@[simp] theorem State.timeoutEffect_memory (i : Nat) (x : Exchange) (a : Nat) (s : State) : (s.timeoutEffect i x a).memory = s.memory := by unfold State.timeoutEffect; dsimp only; split <;> simp
@[simp] theorem State.timeoutEffect_pending (i : Nat) (x : Exchange) (a : Nat) (s : State) : (s.timeoutEffect i x a).pending = s.pending := by unfold State.timeoutEffect; dsimp only; split <;> simp

/-! `waitedTimeout` (R126) -/

@[simp] theorem State.waitedTimeout_pins (s : State) : (s.waitedTimeout).pins = s.pins := by unfold State.waitedTimeout; split <;> (try split) <;> (try split) <;> simp
@[simp] theorem State.waitedTimeout_u (s : State) : (s.waitedTimeout).u = s.u := by unfold State.waitedTimeout; split <;> (try split) <;> (try split) <;> simp
@[simp] theorem State.waitedTimeout_restartDeaf (s : State) : (s.waitedTimeout).restartDeaf = s.restartDeaf := by unfold State.waitedTimeout; split <;> (try split) <;> (try split) <;> simp
@[simp] theorem State.waitedTimeout_timing (s : State) : (s.waitedTimeout).timing = s.timing := by unfold State.waitedTimeout; split <;> (try split) <;> (try split) <;> simp
@[simp] theorem State.waitedTimeout_mgmtAddr (s : State) : (s.waitedTimeout).mgmtAddr = s.mgmtAddr := by unfold State.waitedTimeout; split <;> (try split) <;> (try split) <;> simp
@[simp] theorem State.waitedTimeout_stepTimer (s : State) : (s.waitedTimeout).stepTimer = s.stepTimer := by unfold State.waitedTimeout; split <;> (try split) <;> (try split) <;> simp
@[simp] theorem State.waitedTimeout_handler (s : State) : (s.waitedTimeout).handler = s.handler := by unfold State.waitedTimeout; split <;> (try split) <;> (try split) <;> simp
@[simp] theorem State.waitedTimeout_policy (s : State) : (s.waitedTimeout).policy = s.policy := by unfold State.waitedTimeout; split <;> (try split) <;> (try split) <;> simp
@[simp] theorem State.waitedTimeout_forwarding (s : State) : (s.waitedTimeout).forwarding = s.forwarding := by unfold State.waitedTimeout; split <;> (try split) <;> (try split) <;> simp
@[simp] theorem State.waitedTimeout_mode (s : State) : (s.waitedTimeout).mode = s.mode := by unfold State.waitedTimeout; split <;> (try split) <;> (try split) <;> simp
@[simp] theorem State.waitedTimeout_memory (s : State) : (s.waitedTimeout).memory = s.memory := by unfold State.waitedTimeout; split <;> (try split) <;> (try split) <;> simp
@[simp] theorem State.waitedTimeout_pending (s : State) : (s.waitedTimeout).pending = s.pending := by unfold State.waitedTimeout; split <;> (try split) <;> (try split) <;> simp

/-! `dropWaitingWithdrawn` (R125) -/

@[simp] theorem State.dropWaitingWithdrawn_pins (s : State) : (s.dropWaitingWithdrawn).pins = s.pins := by unfold State.dropWaitingWithdrawn; split <;> (try split) <;> simp
@[simp] theorem State.dropWaitingWithdrawn_u (s : State) : (s.dropWaitingWithdrawn).u = s.u := by unfold State.dropWaitingWithdrawn; split <;> (try split) <;> simp
@[simp] theorem State.dropWaitingWithdrawn_restartDeaf (s : State) : (s.dropWaitingWithdrawn).restartDeaf = s.restartDeaf := by unfold State.dropWaitingWithdrawn; split <;> (try split) <;> simp
@[simp] theorem State.dropWaitingWithdrawn_timing (s : State) : (s.dropWaitingWithdrawn).timing = s.timing := by unfold State.dropWaitingWithdrawn; split <;> (try split) <;> simp
@[simp] theorem State.dropWaitingWithdrawn_mgmtAddr (s : State) : (s.dropWaitingWithdrawn).mgmtAddr = s.mgmtAddr := by unfold State.dropWaitingWithdrawn; split <;> (try split) <;> simp
@[simp] theorem State.dropWaitingWithdrawn_stepTimer (s : State) : (s.dropWaitingWithdrawn).stepTimer = s.stepTimer := by unfold State.dropWaitingWithdrawn; split <;> (try split) <;> simp
@[simp] theorem State.dropWaitingWithdrawn_handler (s : State) : (s.dropWaitingWithdrawn).handler = s.handler := by unfold State.dropWaitingWithdrawn; split <;> (try split) <;> simp
@[simp] theorem State.dropWaitingWithdrawn_policy (s : State) : (s.dropWaitingWithdrawn).policy = s.policy := by unfold State.dropWaitingWithdrawn; split <;> (try split) <;> simp
@[simp] theorem State.dropWaitingWithdrawn_forwarding (s : State) : (s.dropWaitingWithdrawn).forwarding = s.forwarding := by unfold State.dropWaitingWithdrawn; split <;> (try split) <;> simp
@[simp] theorem State.dropWaitingWithdrawn_mode (s : State) : (s.dropWaitingWithdrawn).mode = s.mode := by unfold State.dropWaitingWithdrawn; split <;> (try split) <;> simp
@[simp] theorem State.dropWaitingWithdrawn_memory (s : State) : (s.dropWaitingWithdrawn).memory = s.memory := by unfold State.dropWaitingWithdrawn; split <;> (try split) <;> simp
@[simp] theorem State.dropWaitingWithdrawn_pending (s : State) : (s.dropWaitingWithdrawn).pending = s.pending := by unfold State.dropWaitingWithdrawn; split <;> (try split) <;> simp

/-! `flush` (R57) -/

@[simp] theorem State.flush_pins (a : Nat) (s : State) : (s.flush a).pins = s.pins := by simp [State.flush]
@[simp] theorem State.flush_u (a : Nat) (s : State) : (s.flush a).u = s.u := by simp [State.flush]
@[simp] theorem State.flush_restartDeaf (a : Nat) (s : State) : (s.flush a).restartDeaf = s.restartDeaf := by simp [State.flush]
@[simp] theorem State.flush_timing (a : Nat) (s : State) : (s.flush a).timing = s.timing := by simp [State.flush]
@[simp] theorem State.flush_mgmtAddr (a : Nat) (s : State) : (s.flush a).mgmtAddr = s.mgmtAddr := by simp [State.flush]
@[simp] theorem State.flush_stepTimer (a : Nat) (s : State) : (s.flush a).stepTimer = s.stepTimer := by simp [State.flush]
@[simp] theorem State.flush_handler (a : Nat) (s : State) : (s.flush a).handler = s.handler := by simp [State.flush]
@[simp] theorem State.flush_policy (a : Nat) (s : State) : (s.flush a).policy = s.policy := by simp [State.flush]
@[simp] theorem State.flush_forwarding (a : Nat) (s : State) : (s.flush a).forwarding = s.forwarding := by simp [State.flush]
@[simp] theorem State.flush_mode (a : Nat) (s : State) : (s.flush a).mode = s.mode := by simp [State.flush]
@[simp] theorem State.flush_memory (a : Nat) (s : State) : (s.flush a).memory = s.memory := by simp [State.flush]
@[simp] theorem State.flush_pending (a : Nat) (s : State) : (s.flush a).pending = s.pending := by simp [State.flush]

/-! `clearExchanges` (R61) -/

@[simp] theorem State.clearExchanges_pins (s : State) : (s.clearExchanges).pins = s.pins := by simp [State.clearExchanges]
@[simp] theorem State.clearExchanges_u (s : State) : (s.clearExchanges).u = s.u := by simp [State.clearExchanges]
@[simp] theorem State.clearExchanges_restartDeaf (s : State) : (s.clearExchanges).restartDeaf = s.restartDeaf := by simp [State.clearExchanges]
@[simp] theorem State.clearExchanges_timing (s : State) : (s.clearExchanges).timing = s.timing := by simp [State.clearExchanges]
@[simp] theorem State.clearExchanges_mgmtAddr (s : State) : (s.clearExchanges).mgmtAddr = s.mgmtAddr := by simp [State.clearExchanges]
@[simp] theorem State.clearExchanges_stepTimer (s : State) : (s.clearExchanges).stepTimer = s.stepTimer := by simp [State.clearExchanges]
@[simp] theorem State.clearExchanges_handler (s : State) : (s.clearExchanges).handler = s.handler := by simp [State.clearExchanges]
@[simp] theorem State.clearExchanges_policy (s : State) : (s.clearExchanges).policy = s.policy := by simp [State.clearExchanges]
@[simp] theorem State.clearExchanges_forwarding (s : State) : (s.clearExchanges).forwarding = s.forwarding := by simp [State.clearExchanges]
@[simp] theorem State.clearExchanges_memory (s : State) : (s.clearExchanges).memory = s.memory := by simp [State.clearExchanges]
@[simp] theorem State.clearExchanges_pending (s : State) : (s.clearExchanges).pending = s.pending := by simp [State.clearExchanges]

/-! `pauseWithdraw` (R133) -/

@[simp] theorem State.pauseWithdraw_pins (s : State) : (s.pauseWithdraw).pins = s.pins := by unfold State.pauseWithdraw; split <;> (try split) <;> (try split) <;> simp
@[simp] theorem State.pauseWithdraw_u (s : State) : (s.pauseWithdraw).u = s.u := by unfold State.pauseWithdraw; split <;> (try split) <;> (try split) <;> simp
@[simp] theorem State.pauseWithdraw_restartDeaf (s : State) : (s.pauseWithdraw).restartDeaf = s.restartDeaf := by unfold State.pauseWithdraw; split <;> (try split) <;> (try split) <;> simp
@[simp] theorem State.pauseWithdraw_timing (s : State) : (s.pauseWithdraw).timing = s.timing := by unfold State.pauseWithdraw; split <;> (try split) <;> (try split) <;> simp
@[simp] theorem State.pauseWithdraw_mgmtAddr (s : State) : (s.pauseWithdraw).mgmtAddr = s.mgmtAddr := by unfold State.pauseWithdraw; split <;> (try split) <;> (try split) <;> simp
@[simp] theorem State.pauseWithdraw_stepTimer (s : State) : (s.pauseWithdraw).stepTimer = s.stepTimer := by unfold State.pauseWithdraw; split <;> (try split) <;> (try split) <;> simp
@[simp] theorem State.pauseWithdraw_handler (s : State) : (s.pauseWithdraw).handler = s.handler := by unfold State.pauseWithdraw; split <;> (try split) <;> (try split) <;> simp
@[simp] theorem State.pauseWithdraw_policy (s : State) : (s.pauseWithdraw).policy = s.policy := by unfold State.pauseWithdraw; split <;> (try split) <;> (try split) <;> simp
@[simp] theorem State.pauseWithdraw_forwarding (s : State) : (s.pauseWithdraw).forwarding = s.forwarding := by unfold State.pauseWithdraw; split <;> (try split) <;> (try split) <;> simp
@[simp] theorem State.pauseWithdraw_mode (s : State) : (s.pauseWithdraw).mode = s.mode := by unfold State.pauseWithdraw; split <;> (try split) <;> (try split) <;> simp
@[simp] theorem State.pauseWithdraw_memory (s : State) : (s.pauseWithdraw).memory = s.memory := by unfold State.pauseWithdraw; split <;> (try split) <;> (try split) <;> simp
@[simp] theorem State.pauseWithdraw_pending (s : State) : (s.pauseWithdraw).pending = s.pending := by unfold State.pauseWithdraw; split <;> (try split) <;> (try split) <;> simp

/-! `learnLocal` (R80) -/

@[simp] theorem State.learnLocal_pins (a : Nat) (s : State) : (s.learnLocal a).pins = s.pins := by unfold State.learnLocal; split <;> simp
@[simp] theorem State.learnLocal_u (a : Nat) (s : State) : (s.learnLocal a).u = s.u := by unfold State.learnLocal; split <;> simp
@[simp] theorem State.learnLocal_restartDeaf (a : Nat) (s : State) : (s.learnLocal a).restartDeaf = s.restartDeaf := by unfold State.learnLocal; split <;> simp
@[simp] theorem State.learnLocal_timing (a : Nat) (s : State) : (s.learnLocal a).timing = s.timing := by unfold State.learnLocal; split <;> simp
@[simp] theorem State.learnLocal_mgmtAddr (a : Nat) (s : State) : (s.learnLocal a).mgmtAddr = s.mgmtAddr := by unfold State.learnLocal; split <;> simp
@[simp] theorem State.learnLocal_stepTimer (a : Nat) (s : State) : (s.learnLocal a).stepTimer = s.stepTimer := by unfold State.learnLocal; split <;> simp
@[simp] theorem State.learnLocal_handler (a : Nat) (s : State) : (s.learnLocal a).handler = s.handler := by unfold State.learnLocal; split <;> simp
@[simp] theorem State.learnLocal_policy (a : Nat) (s : State) : (s.learnLocal a).policy = s.policy := by unfold State.learnLocal; split <;> simp
@[simp] theorem State.learnLocal_forwarding (a : Nat) (s : State) : (s.learnLocal a).forwarding = s.forwarding := by unfold State.learnLocal; split <;> simp
@[simp] theorem State.learnLocal_mode (a : Nat) (s : State) : (s.learnLocal a).mode = s.mode := by unfold State.learnLocal; split <;> simp
@[simp] theorem State.learnLocal_memory (a : Nat) (s : State) : (s.learnLocal a).memory = s.memory := by unfold State.learnLocal; split <;> simp
@[simp] theorem State.learnLocal_pending (a : Nat) (s : State) : (s.learnLocal a).pending = s.pending := by unfold State.learnLocal; split <;> simp

/-! ### Entries after an operation -/

/-- What a change of every entry does to one of them. -/
theorem State.entryAt_map (s : State) (g : Option Exchange → Option Exchange) (hg : g none = none) (i : Nat) :
    (s.entries.map g).getD i none = g (s.entryAt i) := by
  simp only [State.entryAt, List.getD_eq_getElem?_getD, List.getElem?_map]
  cases s.entries[i]? with
  | none => simp [hg]
  | some e => simp

/-- What dropping a withdrawn waiting frame does: nothing, or the entry on the line is FREE and the line IDLE (R125). -/
theorem State.dropWaitingWithdrawn_cases (s : State) :
    s.dropWaitingWithdrawn = s ∨
      ∃ i a x, s.line = .sending i a ∧ s.d.tx.isWaiting = true ∧ s.entryAt i = some x ∧ x.phase = .withdrawn ∧
        s.dropWaitingWithdrawn = (s.withdrawFrame.freeEntry i).lineIdle := by
  unfold State.dropWaitingWithdrawn
  split
  · next i a hl =>
    split
    · next h =>
      simp only [Bool.and_eq_true, Option.any_eq_true] at h
      obtain ⟨hw, x, hx, hp⟩ := h
      exact .inr ⟨i, a, x, hl, hw, hx, by simpa using hp, rfl⟩
    · exact .inl rfl
  · exact .inl rfl
  · exact .inl rfl

/-- The ways a settled exchange stands afterwards (R122): a posted SET is FREE, any other READY with the outcome. -/
theorem State.settle_entryAt (s : State) (i : Nat) (x : Exchange) (o : HeldOutcome) (h : i < s.entries.length) :
    (s.settle i x o).entryAt i =
      if x.posted then none
      else some { x with phase := .ready o (s.timing.collectionTime * Config.unitsPer10ms) } := by
  have hlen : ∀ a, (s.learnDownstream a).entries = s.entries := by
    intro a; unfold State.learnDownstream; split <;> (try split) <;> simp
  have key : ∀ t : State, i < t.entries.length → t.timing = s.timing →
      (if x.posted then t.settlePosted i x.key.addr o.kind else t.settleReady i x o).entryAt i =
        if x.posted then none
        else some { x with phase := .ready o (s.timing.collectionTime * Config.unitsPer10ms) } := by
    intro t ht htm
    cases hp : x.posted with
    | true =>
      simp only [if_true, State.settlePosted]
      split
      · simp [State.entryAt_freeEntry]
      · have : ∀ u : State, ((u.countStation .lostWrites x.key.addr).raise .lostWrite).entryAt i = u.entryAt i := by
          intro u; simp [State.entryAt]
        rw [this, State.entryAt_freeEntry]; simp
    | false =>
      have : (t.settleReady i x o).entryAt i =
          (t.setEntry i { x with phase := .ready o (t.timing.collectionTime * Config.unitsPer10ms) }).entryAt i := rfl
      simp [this, State.entryAt_setEntry, ht, htm, hp]
  by_cases hd : (x.discovery && o.kind.teaches) = true
  · simpa only [State.settle, hd, if_true] using key (s.learnDownstream x.key.addr) (by rw [hlen]; exact h) (by simp)
  · simpa only [State.settle, hd, if_false, Bool.false_eq_true] using key s h rfl

/-- A reply timer that waits takes effect as REPLY_TIMEOUT's does, and otherwise nothing happens (R126). -/
theorem State.waitedTimeout_cases (s : State) :
    s.waitedTimeout = s ∨
      ∃ i a x, s.line = .awaiting i a 0 ∧ s.entryAt i = some x ∧ s.waitedTimeout = s.timeoutEffect i x a := by
  unfold State.waitedTimeout
  split
  · next i a t hl =>
    split
    · next ht =>
      subst ht
      split
      · next x hx => exact .inr ⟨i, a, x, hl, hx, rfl⟩
      · exact .inl rfl
    · exact .inl rfl
  · exact .inl rfl
  · exact .inl rfl

end Sys2Proof.Machine
end

