-- ==== Sys2Proof/Laws/Words.lean ====
section
/-! SUPPORT. The words of the statements beside the operations of the model: each word as the operation that computes it. -/

namespace Sys2Proof.Machine

/-! ### The receiver -/

@[simp] theorem Receiver.abandon_looking : Receiver.abandon .looking = .looking := rfl
@[simp] theorem Receiver.abandon_reading : Receiver.abandon .reading = .missed := rfl
@[simp] theorem Receiver.abandon_missed : Receiver.abandon .missed = .missed := rfl
@[simp] theorem Receiver.abandon_abandon (r : Receiver) : r.abandon.abandon = r.abandon := by cases r <;> rfl
theorem Receiver.abandon_ne_reading (r : Receiver) : r.abandon ≠ .reading := by cases r <;> decide

/-- With nothing to take, the taking that comes before a line event leaves the state as it is (R26). -/
theorem State.takeStored_of_nothingToTake (s : State) (p : Port) (h : s.NothingToTake p) : s.takeStored p = s := by
  rcases h with h | h | ⟨rfl, m, h⟩
  · cases p <;> simp [State.takeStored, State.uTakeNow, State.dTakeNow, State.takeable, h]
  · cases p <;> simp_all [State.takeStored, State.uTakeNow, State.dTakeNow, State.takeable, State.port]
  · simp [State.takeStored, State.uTakeNow, State.takeable, h, Handler.takes]

/-- What an event on the line does at a port with nothing to take (R19, R30). -/
theorem State.exec_characterReceived (s : State) (p : Port) (e : LineEvent) (h : s.NothingToTake p) :
    exec (.characterReceived p e) s = .next (s.lineEvent p e) := by
  simp only [exec, execCharacterReceived, s.takeStored_of_nothingToTake p h]

/-- A port that hears reads the character that ends (R19). -/
theorem State.endCharacter_of_hears (s : State) (p : Port) (levels : List Bool) (h : s.Hears p) :
    s.endCharacter p levels =
      match readCharacter (s.port p).live levels with
      | none => s.updatePort p fun q => { q with receiver := .looking }
      | some ch => s.deliverCharacter p ch := by
  cases hc : readCharacter (s.port p).live levels <;> simp [State.endCharacter, h.1.1, h.2, hc]

/-! ### Taking a frame and matching -/

theorem State.canTake_iff (s : State) (f : FrameRecord) : s.CanTake f ↔ s.takeable = some f := by
  constructor
  · rintro ⟨h1, h2 | ⟨g, t, h2⟩, h3⟩ <;> simp [State.takeable, h1, h2, h3, Handler.takes]
  · intro h
    unfold State.takeable at h
    split at h
    · next hc =>
      simp only [Bool.and_eq_true] at hc
      refine ⟨hc.1, ?_, h⟩
      cases hh : s.handler with
      | idle => exact .inl rfl
      | window g t => exact .inr ⟨g, t, rfl⟩
      | deciding g => simp [hh, Handler.takes] at hc
      | answering m => simp [hh, Handler.takes] at hc
    · exact absurd h (by simp)

theorem State.noLiveEntry_iff (s : State) (f : FrameRecord) : s.NoLiveEntry f ↔ s.liveEntry f.key = none := by
  constructor
  · intro h
    simp only [State.liveEntry, List.findIdx?_eq_none_iff]
    intro e he
    obtain ⟨i, hi, rfl⟩ := List.getElem_of_mem he
    cases hx : s.entries[i] with
    | none => rfl
    | some x =>
      have := h i x (by simp [State.entryAt, List.getD_eq_getElem?_getD, List.getElem?_eq_getElem hi, hx])
      simpa using this
  · intro h i x hx hl hk
    simp only [State.liveEntry, List.findIdx?_eq_none_iff] at h
    have hi := State.lt_of_entryAt s i x hx
    have he : s.entries[i] = some x := by
      simpa [State.entryAt, List.getD_eq_getElem?_getD, List.getElem?_eq_getElem hi] using hx
    have := h _ (List.getElem_mem hi)
    simp [he, hl, hk] at this

/-- With live keys distinct, the live entry that holds a key is the one there is (R40). -/
theorem State.liveEntry_of_distinct (s : State) (hd : s.LiveKeysDistinct) (k : Key) (i : Nat) (x : Exchange)
    (hx : s.entryAt i = some x) (hl : x.isLive = true) (hk : x.key = k) : s.liveEntry k = some i := by
  have hi := State.lt_of_entryAt s i x hx
  have he : s.entries[i] = some x := by
    simpa [State.entryAt, List.getD_eq_getElem?_getD, List.getElem?_eq_getElem hi] using hx
  simp only [State.liveEntry, List.findIdx?_eq_some_iff_getElem]
  refine ⟨hi, by simp [he, hl, hk], ?_⟩
  intro j hj
  cases hy : s.entries[j] with
  | none => simp
  | some y =>
    simp only [Option.any_some, Bool.not_eq_true, Bool.and_eq_false_imp]
    intro hyl
    rw [beq_eq_false_iff_ne]
    intro hyk
    have hj' : s.entryAt j = some y := by
      simp [State.entryAt, List.getD_eq_getElem?_getD, List.getElem?_eq_getElem (show j < s.entries.length by omega), hy]
    have := hd i j x y hx hj' hl hyl (by rw [hk, hyk])
    omega

theorem State.heldByAnother_iff (s : State) (a held : Nat) :
    s.HeldByAnother a held ↔ s.aliasHeldByOther a held = true := by
  simp only [State.aliasHeldByOther, State.HeldByAnother, List.any_eq_true, List.mem_range, StationRecord.holdsAlias,
    Config.stationCount]
  constructor
  · rintro ⟨b, h1, h2, h3, h4⟩
    have := (isStation_iff b).1 h2
    refine ⟨b - 1, by omega, ?_⟩
    rw [show b - 1 + 1 = b by omega]
    simp [h1, h3, h4]
  · rintro ⟨k, hk, h⟩
    simp only [Bool.and_eq_true, bne_iff_ne, Bool.or_eq_true, beq_iff_eq] at h
    exact ⟨k + 1, h.1, (isStation_iff _).2 (by omega), h.2.1, h.2.2⟩

theorem State.lineIsFree_iff (s : State) : s.LineIsFree ↔ s.lineFree = true := by
  simp only [State.LineIsFree, State.lineFree, Bool.and_eq_true, List.all_eq_true, beq_iff_eq]
  constructor
  · rintro ⟨h1, h2⟩
    refine ⟨fun e he => ?_, h2⟩
    obtain ⟨i, hi, rfl⟩ := List.getElem_of_mem he
    cases hx : s.entries[i] with
    | none => rfl
    | some x =>
      have := h1 i x (by simp [State.entryAt, List.getD_eq_getElem?_getD, List.getElem?_eq_getElem hi, hx])
      simpa [Exchange.holdsLine] using this
  · rintro ⟨h1, h2⟩
    refine ⟨fun i x hx => ?_, h2⟩
    have hi := State.lt_of_entryAt s i x hx
    have he : s.entries[i] = some x := by
      simpa [State.entryAt, List.getD_eq_getElem?_getD, List.getElem?_eq_getElem hi] using hx
    have := h1 _ (List.getElem_mem hi)
    simpa [he, Exchange.holdsLine] using this

/-- Settling D settings is what the statements call settled (R36). -/
theorem State.settledOn_settleDSettings (r : State) : SettledOn r r.settleDSettings := by
  unfold SettledOn State.settleDSettings
  rw [State.lineIsFree_iff]
  constructor
  · rintro ⟨h1, h2, h3⟩
    simp [h1, h2, h3, PortState.applyPending]
  · intro h
    rw [if_neg]
    simpa [and_assoc] using h

theorem matches_iff (x : Exchange) (a : Nat) (f : FrameRecord) : Matches x a f ↔ answerMatches x a f = true := by
  have hk : ∀ m n : Kind, ((n = .ask ∧ m = .data) ∨ (n = .set ∧ m = .done) ∨
      ((n = .ask ∨ n = .set) ∧ m ∈ [Kind.fault, .wait, .busy, .absent, .denied, .stale, .silent])) ↔
      kindFits m n = true := by
    intro m n; cases m <;> cases n <;> decide
  simp only [Matches, answerMatches, Bool.and_eq_true, beq_iff_eq, hk, and_assoc]

/-! ### Records and entries -/

/-- Changing a record is replacing it. -/
theorem State.updateStation_eq (s : State) (a : Nat) (g : StationRecord → StationRecord) (ha : isStation a = true) :
    s.updateStation a g = s.withRecord a (g (s.stationAt a)) := by
  simp only [State.updateStation, State.withRecord, State.stationAt, ha, if_true]
  congr 1
  apply List.ext_getElem?
  intro k
  simp only [List.getElem?_modify, List.getElem?_set, List.getD_eq_getElem?_getD]
  by_cases hk : a - 1 = k
  · subst hk
    by_cases hl : a - 1 < s.stations.length <;> simp [hl]
  · simp [hk]

theorem State.countStation_eq (s : State) (a : Nat) (c : StationCounter) (ha : isStation a = true) :
    s.countStation c a = s.withRecord a { s.stationAt a with counters := (s.stationAt a).counters.bump c } :=
  s.updateStation_eq a _ ha

theorem State.freeEntry_eq (s : State) (i : Nat) : s.freeEntry i = s.withFreed i := rfl

theorem State.setEntry_eq (s : State) (i : Nat) (x : Exchange) : s.setEntry i x = s.withEntry i (some x) := rfl

theorem State.setLevel_eq (s : State) (a l : Nat) (ha : isStation a = true) :
    s.setLevel a l = s.withLevel a l (s.stationAt a).counters := by
  simp only [State.setLevel, State.withLevel, ha, if_true, State.updateStation_eq s a _ ha]

/-- The lowest FREE entry is the one the table finds (R43). -/
theorem State.freeIndex_of_lowestFree (s : State) (i : Nat) (hs : s.TablesSized) (h : s.LowestFree i) :
    s.freeIndex = some i := by
  obtain ⟨h1, h2, h3⟩ := h
  have hl : s.entries.length = 8 := hs.1
  have hi : i < s.entries.length := by omega
  simp only [State.freeIndex, List.findIdx?_eq_some_iff_getElem]
  refine ⟨hi, ?_, ?_⟩
  · simpa [State.entryAt, List.getD_eq_getElem?_getD, List.getElem?_eq_getElem hi] using h2
  · intro j hj
    have := h3 j hj
    simpa [State.entryAt, List.getD_eq_getElem?_getD, List.getElem?_eq_getElem (show j < s.entries.length by omega),
      ← Option.isSome_iff_ne_none] using this

theorem State.freeIndex_of_full (s : State) (hs : s.TablesSized) (h : s.TableFull) : s.freeIndex = none := by
  have hl : s.entries.length = 8 := hs.1
  simp only [State.freeIndex, List.findIdx?_eq_none_iff]
  intro e he
  obtain ⟨i, hi, rfl⟩ := List.getElem_of_mem he
  have := h i (by omega)
  simpa [State.entryAt, List.getD_eq_getElem?_getD, List.getElem?_eq_getElem hi, ← Option.isSome_iff_ne_none] using this

/-! ### Fields and their ranges -/

/-- All values lie in their ranges when every value does, taken beside its range. -/
theorem allInside_iff (values : List Nat) (ranges : List (Nat × Nat)) :
    AllInside values ranges ↔ ∀ p ∈ values.zip ranges, p.2.1 ≤ p.1 ∧ p.1 ≤ p.2.2 := by
  simp only [AllInside]
  constructor
  · rintro h ⟨v, r⟩ hp
    obtain ⟨j, hj⟩ := List.getElem?_of_mem hp
    rw [List.getElem?_zip_eq_some] at hj
    exact h j v r hj.1 hj.2
  · intro h j v r hv hr
    exact h (v, r) (List.mem_of_getElem? (List.getElem?_zip_eq_some.2 ⟨hv, hr⟩ : (values.zip ranges)[j]? = some (v, r)))

/-- The first value outside its range has every value before it inside. -/
theorem firstOutside_iff (values : List Nat) (ranges : List (Nat × Nat)) (k : Nat) :
    FirstOutside values ranges k ↔
      1 ≤ k ∧ (∃ v r, values[k - 1]? = some v ∧ ranges[k - 1]? = some r ∧ ¬ (r.1 ≤ v ∧ v ≤ r.2)) ∧
        AllInside (values.take (k - 1)) ranges := by
  simp only [FirstOutside, AllInside, List.getElem?_take]
  refine and_congr_right fun _ => and_congr_right fun _ => ?_
  constructor
  · intro h j v r hv hr
    split at hv
    · next hj => exact h j v r hj hv hr
    · exact absurd hv (by simp)
  · intro h j v r hj hv hr
    exact h j v r (by simp [hj, hv]) hr

/-! ### Match-or-admit -/

/-- Both commands that judge a request run match-or-admit on the state with the request taken (R101). -/
theorem State.exec_of_judges (s : State) (c : Instr) (f : FrameRecord) (h : s.Judges c f) :
    exec c s = .next (State.matchOrAdmit f { s with u := { s.u with slot := none }, handler := .deciding f }) := by
  rcases h with ⟨rfl, ⟨h, hk, ha, hm⟩, hd⟩ | ⟨rfl, h1, ⟨t, h2⟩, h3, h4, _, _⟩
  · have ht := (s.canTake_iff f).1 h
    have hto : takingOf s.mgmtAddr f = .stationRequest := by
      rcases hk with hk | hk <;> simp [takingOf, hk, Kind.isRequest, hm]
    simp only [exec, execStationRequest, State.takeAs, ht, hto, if_true, State.decideStation, ha]
    rcases hd with hd | ⟨hu, i, x, hx, hl, hkk⟩
    · have e1 : ((State.beginTaking f s).stationAt f.addr).side = .downstream := hd
      rw [e1]; rfl
    · have e1 : ((State.beginTaking f s).stationAt f.addr).side = .unknown := hu
      have e2 : ((State.beginTaking f s).liveEntry f.key).isSome = true := by
        rw [Option.isSome_iff_ne_none]
        intro hc
        exact (s.noLiveEntry_iff f).2 hc i x hx hl hkk
      rw [e1]
      simp only [State.decideUnknown, e2, if_true]
      rfl
  · have e0 : s.takeable = none := by simp [State.takeable, h3]
    have e1 : ∀ q : PortState, q.slot = none → { q with slot := none } = q := by
      intro q hq; cases q; simp_all
    rw [e1 s.u h3]
    simp only [exec, execDiscoveryWindowExpiry, h1, if_true, e0, State.windowExpiry, h2, h4]

end Sys2Proof.Machine
end

