-- ==== Sys2Proof/WellFormed.lean ====
section
/-! DEFINITION. What the operands of a command must satisfy for it to name something the part has. -/

namespace Sys2Proof

/-- The samples of a character begin at the first sample at space, its leading edge (R19). -/
def LineEvent.wellFormed : LineEvent → Bool
  | .startEdge => true
  | .samples levels => levels.head? == some false

/-- A command's operands are those of the spec: an entry number is one of the eight entries (R39), a
character's samples begin with its leading edge (R19). -/
def Instr.wellFormed : Instr → Bool
  | .characterReceived _ e => e.wellFormed
  | .reAskExpiry i => decide (i < Config.entryCount)
  | .collectionExpiry i => decide (i < Config.entryCount)
  | .resetNLow => true
  | .resetEnd _ => true
  | .gapLimitExpiry _ => true
  | .transmitStart _ => true
  | .frameSent _ _ => true
  | .deafPeriodEnd => true
  | .stationRequest => true
  | .discoveryWindowExpiry => true
  | .note => true
  | .uAnswerFrame => true
  | .selection => true
  | .dAnswerFrame => true
  | .foreignRequest => true
  | .replyTimeout => true
  | .pauseTimerExpiry => true
  | .ladderStep => true
  | .factorAck => true
  | .factorLevels => true
  | .uPort => true
  | .dPort => true
  | .timing => true
  | .policy => true
  | .pause => true
  | .flush => true
  | .clear => true
  | .restart => true
  | .station => true
  | .countersReadClear => true
  | .portCountersReadClear => true
  | .managementRequest => true

end Sys2Proof
end

