-- ==== Sys2Proof/Tests/Slice0.lean ====
section
/-! SUPPORT. The model's own tests: what the checks refuse, the spec's worked values, one step of each command on a small state, and for
every statement a state that meets all its hypotheses. -/

namespace Sys2Proof.Tests

set_option Elab.async false

open Sys2Proof.Machine

/-! ### Small states -/

/-- After reset with all straps low: management address 126, policy CLOSED, divisor 48. -/
def base : State := State.reset

/-- A frame with TAG 1 and object 0010h. -/
def frame (a : Nat) (k : Kind) (payload : List Byte) : FrameRecord := ⟨a, k, 1, false, 0, 0x10, payload⟩

/-- A management frame with TAG 1. -/
def managed (k : Kind) (o : ObjectNumber) (payload : List Byte) : FrameRecord := ⟨126, k, 1, false, 0, o, payload⟩

/-- Put a frame in the U slot. -/
def onU (f : FrameRecord) (s : State) : State := { s with u := { s.u with slot := some f } }

/-- Put a frame in the D slot. -/
def onD (f : FrameRecord) (s : State) : State := { s with d := { s.d with slot := some f } }

/-- Give station a a side. -/
def sided (a : Nat) (side : Side) (s : State) : State := s.withRecord a { s.stationAt a with side := side }

/-- An exchange of station 5, object 0010h, TAG 1. -/
def exchange (k : Kind) (ph : Phase) : Exchange := ⟨ph, ⟨5, k, 0x10, 1⟩, false, false, 1, [], 1, 0⟩

/-- Put an exchange in entry i, at the tail of the order. -/
def holding (i : Nat) (x : Exchange) (s : State) : State :=
  { s with entries := s.entries.set i (some x), order := s.order ++ [i] }

/-- Put the line in a state. -/
def lined (l : Line) (s : State) : State := { s with line := l }

/-- Station 5 is DOWNSTREAM. -/
def five : State := sided 5 .downstream base

/-- The U assembler has these characters. -/
def collecting (chars : List Byte) (e : Option CharError) : State := { base with u := { base.u with assembler := .collect chars e 1 } }

/-- The samples of a byte at the settings of `base`. -/
def samples (b : Byte) : List Bool := charSamples base.u.live b

/-- The state after a command; every command has one. -/
def after (c : Instr) (s : State) : State :=
  match exec c s with
  | .next t => t
  | .fault _ => s
  | .refused _ => s

/-- Sending an answer with a mark on U. -/
def answering (m : AnswerMark) : State :=
  { base with u := { base.u with tx := .sending (frame 5 .done []) 3 }, handler := .answering m }

/-- The ASK of section 1.3, its characters on the line. -/
def askChars : List Byte := [0x96, 0x05, 0x01, 0x03, 0x00, 0x10, 0x00, 0x7F, 0xEF]

/-- Live keys are distinct when the eight entries say so. -/
theorem keysDistinct_of (s : State) (hl : s.entries.length = 8)
    (h : ∀ i < 8, ∀ j < 8, ∀ x ∈ s.entryAt i, ∀ y ∈ s.entryAt j,
      x.isLive = true → y.isLive = true → x.key = y.key → i = j) : s.LiveKeysDistinct := by
  intro i j x y hx hy h1 h2 h3
  have hi := State.lt_of_entryAt s i x hx
  have hj := State.lt_of_entryAt s j y hy
  exact h i (by omega) j (by omega) x hx y hy h1 h2 h3

/-- A state with nothing waiting in the D transmitter. -/
theorem noStart_of (s : State) (h : s.d.tx.isWaiting = false) : s.NoStartWhilePaused := by
  intro hw; rw [h] at hw; exact absurd hw (by decide)

/-! ### WellFormed refuses what names nothing -/

theorem test_refuses_samples_without_edge : (Instr.characterReceived .u (.samples [])).wellFormed = false := by decide
theorem test_refuses_samples_from_mark : (Instr.characterReceived .d (.samples [true, false])).wellFormed = false := by
  decide
theorem test_refuses_reask_of_entry_eight : (Instr.reAskExpiry 8).wellFormed = false := by decide
theorem test_refuses_collection_of_entry_eight : (Instr.collectionExpiry 8).wellFormed = false := by decide
theorem test_accepts_what_the_part_has :
    (Instr.reAskExpiry 7).wellFormed = true ∧ (Instr.collectionExpiry 0).wellFormed = true ∧
      (Instr.characterReceived .u (.samples (samples 0x96))).wellFormed = true ∧ Instr.flush.wellFormed = true := by
  decide +kernel
theorem test_no_word_spells_a_command : decodeTableWord 8 0 = none ∧ (base.withFetchWord 8 0) = base := ⟨rfl, rfl⟩

/-! ### The spec's worked values -/

theorem test_check_of_123456789 : check ((List.range 9).map fun k => BitVec.ofNat 8 (0x31 + k)) = 0x29B1 := by
  decide +kernel
theorem test_check_of_the_short_ask : check [0x05, 0x01, 0x03, 0x00, 0x10, 0x00] = 0x7FEF := by decide +kernel
theorem test_the_short_ask_as_sent : (⟨5, .ask, 3, false, 0, 0x10, []⟩ : FrameRecord).chars = askChars := by
  decide +kernel
theorem test_the_short_ask_as_judged : judgeFrame askChars none = .wellFormed ⟨5, .ask, 3, false, 0, 0x10, []⟩ := by
  decide +kernel
theorem test_ctrl_table :
    contentMalformed 5 .ask 0x03 0 = false ∧ contentMalformed 5 .set 0x13 0 = false ∧
      contentMalformed 5 .ask 0x13 0 = true ∧ contentMalformed 5 .set 0x23 0 = true ∧
      contentMalformed 5 .wait 0x4F 0 = false ∧ contentMalformed 5 .data 0x60 0 = false ∧
      contentMalformed 5 .data 0x70 0 = true ∧ contentMalformed 5 .ask 0x83 0 = true ∧
      (ctrlTag 0x4F, ctrlAttn 0x4F, ctrlPosted 0x13) = (15, 2, true) := by decide +kernel
theorem test_character_times : (base.u.live.charTime, base.u.live.bitsPerChar) = (10 * 80 * 48, 10) := by decide +kernel
theorem test_strap_addresses :
    ([0, 1, 10, 64, 126, 127].map fun m => (⟨BitVec.ofNat 7 m, false, false, false⟩ : Straps).managementAddress) =
      [126, 1, 10, 64, 126, 126] := by decide +kernel
/-- Selection in practice (section 6.2): entry 6 wins, then, without it, 0. -/
def practice : State :=
  let x (a c : Nat) : Exchange := ⟨.queued, ⟨a, .ask, 1, BitVec.ofNat 4 a⟩, false, false, c, [], 0, 0⟩
  let s := base.withRecord 30 { base.stationAt 30 with level := 8 }
  { s with
    entries := [some (x 11 1), some (x 11 1), some { x 0 0 with key := ⟨0, .note, 1, 1⟩ }, none, some (x 30 3), none,
      some (x 17 2), none]
    order := [4, 0, 2, 6, 1] }
theorem test_selection_in_practice :
    practice.pick = some 6 ∧ (practice.withFreed 6).pick = some 0 ∧
      (((practice.withFreed 6).withFreed 0).withFreed 1).pick = some 4 := by decide +kernel

/-! ### One step of each command -/

theorem test_reset_n_low : (after .resetNLow base).pins.resetN = false ∧ (after .resetNLow base).deaf .u = true := by
  decide +kernel
theorem test_reset_end : (after (.resetEnd ⟨10, true, true, true⟩) base).mgmtAddr = 10 ∧
    (after (.resetEnd ⟨10, true, true, true⟩) base).u.live.divisor = 4 := by decide +kernel
theorem test_character_received_lead :
    (after (.characterReceived .u (.samples (samples 0x96))) base).u.assembler =
      .collect [0x96] none (2 * (10 * 80 * 48)) := by decide +kernel
theorem test_character_received_end :
    (after (.characterReceived .u (.samples (samples 0xEF))) (collecting (askChars.take 8) none)).u.slot =
      some ⟨5, .ask, 3, false, 0, 0x10, []⟩ := by decide +kernel
theorem test_gap_limit_expiry :
    (after (.gapLimitExpiry .u) (collecting [0x96] none)).u.counters.truncated = 1 := by decide +kernel
theorem test_transmit_start :
    (after (.transmitStart .d) { base with d := { base.d with tx := .waiting (frame 5 .ask []) } }).driverEnable .d =
      true := by decide +kernel
theorem test_frame_sent :
    (after (.frameSent .u strapsAllLow) (answering .plain)).handler = .idle ∧
      (after (.frameSent .u strapsAllLow)
        { answering .plain with u := { (answering .plain).u with receiver := .missed } }).u.receiver = .missed ∧
      (after (.frameSent .u strapsAllLow) (answering .restart)).restartDeaf = some 36864 := by decide +kernel
theorem test_deaf_period_end : (after .deafPeriodEnd { base with restartDeaf := some 0 }).deaf .d = false := by
  decide +kernel
theorem test_station_request :
    (after .stationRequest (onU (frame 5 .ask []) five)).entryAt 0 = some ⟨.queued, ⟨5, .ask, 0x10, 1⟩, false, false, 1, [], 0, 0⟩ ∧
      (after .stationRequest (onU (frame 5 .ask []) five)).u.tx =
        .waiting ⟨5, .wait, 1, false, 3, 0x10, []⟩ := by decide +kernel
theorem test_discovery_window_expiry :
    ((after .discoveryWindowExpiry { base with handler := .window (frame 7 .ask []) 0 }).entryAt 0).any (·.discovery) =
      true := by decide +kernel
/-- A request stored as the timer runs out closes the window, and the window it opens itself stays open. -/
theorem test_discovery_window_expiry_gone :
    (after .discoveryWindowExpiry
      (onU (frame 7 .ask []) { base with handler := .window (frame 6 .ask []) 0, policy := .opened })).handler =
        .window (frame 7 .ask []) (4 * base.u.live.charTime) := by decide +kernel
theorem test_note : ((after .note (onU (frame 0 .note [1]) base)).entryAt 0).any (fun x => x.key.kind == .note) = true := by
  decide +kernel
theorem test_u_answer_frame :
    (after .uAnswerFrame (onU (frame 5 .data []) five)).u.counters.unexpected = 1 ∧
      ((after .uAnswerFrame (onU (frame 7 .data []) { base with handler := .window (frame 7 .ask []) 9 })).stationAt 7).side =
        .localSide := by decide +kernel
theorem test_selection :
    (after .selection (holding 2 (exchange .ask .queued) five)).line = .sending 2 5 := by decide +kernel
theorem test_d_answer_frame :
    (after .dAnswerFrame (onD (frame 5 .data [7]) (lined (.awaiting 0 5 9) (holding 0 (exchange .ask .onLine) five)))).entryAt 0 =
      some { exchange .ask .onLine with phase := .ready ⟨.data, some 0, [7]⟩ (50 * 368640) } := by decide +kernel
theorem test_foreign_request : (after .foreignRequest (onD (frame 126 .ask []) base)).d.counters.unexpected = 1 := by
  decide +kernel
theorem test_reply_timeout :
    (after .replyTimeout (lined (.awaiting 0 5 0) (holding 0 (exchange .ask .onLine) five))).line = .sending 0 5 ∧
      ((after .replyTimeout (lined (.awaiting 0 5 0) (holding 0 (exchange .ask .onLine) five))).stationAt 5).level = 2 := by
  decide +kernel
theorem test_re_ask_expiry :
    ((after (.reAskExpiry 3) (holding 3 (exchange .ask (.farWait 0)) five)).entryAt 3).any (·.isQueued) = true := by
  decide +kernel
theorem test_collection_expiry :
    (after (.collectionExpiry 1) (holding 1 (exchange .set (.ready ⟨.done, some 0, []⟩ 0)) five)).spent =
      [⟨5, .set, 0x10, 1⟩] := by decide +kernel
theorem test_pause_timer_expiry : (after .pauseTimerExpiry { base with mode := .paused 0 }).mode = .run := by decide +kernel
theorem test_ladder_step :
    ((after .ladderStep five).stationAt 5).level = 2 ∧ ((after .ladderStep five).stationAt 6).level = 1 := by decide +kernel
theorem test_factor_ack :
    (after .factorAck (onU (managed .set 2 [1]) base)).u.tx = .waiting ⟨126, .done, 1, false, 0, 2, []⟩ := by decide +kernel
theorem test_factor_levels :
    (after .factorLevels (onU (managed .set 3 [2, 0, 0, 0, 0, 0, 0, 0, 0, 0, 0]) base)).summary = 2 := by decide +kernel
theorem test_u_port :
    (after .uPort (onU (managed .set 0x10 [0, 4, 0, 1, 1, 2]) base)).u.pendingCopy.divisor = 4 ∧
      (after (.frameSent .u strapsAllLow) { answering .uSettings with
        u := { (answering .uSettings).u with pendingCopy := ⟨4, .none, 1, 1, 2⟩, pendingFlag := true } }).u.live.divisor = 4 := by
  decide +kernel
theorem test_d_port : (after .dPort (onU (managed .set 0x11 [3, 0xFF, 2, 2, 15, 15]) base)).d.pendingCopy =
    ⟨1023, .odd, 2, 15, 15⟩ := by decide +kernel
theorem test_timing :
    (after .timing (onU (managed .set 0x12 [0, 2, 10, 8, 50, 4, 9, 2]) base)).u.tx =
      .waiting ⟨126, .refused, 1, false, 3, 0x12, [4, 1]⟩ := by decide +kernel
theorem test_policy : (after .policy (onU (managed .set 0x13 [1, 0]) base)).policy = .opened := by decide +kernel
theorem test_pause : (after .pause (onU (managed .set 0x20 [0xFF, 0xFF]) base)).mode = .paused (65535 * 368640) := by
  decide +kernel
theorem test_flush :
    (after .flush (onU (managed .set 0x21 [5]) (holding 0 (exchange .ask .queued) five))).entryAt 0 = none := by decide +kernel
theorem test_clear :
    (after .clear (onU (managed .set 0x22 []) (lined (.awaiting 0 5 9) (holding 0 (exchange .ask .onLine) five)))).entryAt 0 =
      some (exchange .ask .withdrawn) := by decide +kernel
theorem test_restart : (after .restart (onU (managed .set 0x23 []) base)).handler = .answering .restart := by decide +kernel
theorem test_station :
    ((after .station (onU (managed .set 0x105 [2, 9, 3, 0]) base)).stationAt 5) =
      { base.stationAt 5 with side := .downstream, aliasAddr := 9, cls := 3, permit := false } := by decide +kernel
theorem test_counters_read_clear :
    (after .countersReadClear (onU (managed .ask 0x305 []) base)).memory = some ⟨0x305, 1, List.replicate 14 0⟩ := by
  decide +kernel
theorem test_port_counters_read_clear :
    ((after .portCountersReadClear (onU (managed .ask 0x401 []) base)).memory.map (·.payload.length)) = some 44 := by
  decide +kernel
theorem test_management_request :
    (after .managementRequest (onU (managed .ask 0 []) base)).u.tx =
      .waiting ⟨126, .data, 1, false, 3, 0, [0x7C, 0x31, 0x02, 0x64, 0x03, 126, 8, 4, 64]⟩ ∧
    (after .managementRequest (onU (managed .ask 0x517 []) base)).u.tx =
      .waiting ⟨126, .refused, 1, false, 3, 0x517, [1, 0]⟩ := by decide +kernel

/-! ### Every statement's hypotheses are met somewhere -/

theorem sized_base : base.TablesSized := by unfold State.TablesSized; decide +kernel
theorem sized_five : five.TablesSized := by unfold State.TablesSized; decide +kernel
theorem takes (s : State) (f : FrameRecord) (h : s.takeable = some f) : s.CanTake f := (s.canTake_iff f).2 h

/-- OwnStepsRunWhenTheirMomentHasCome, AUnitOfTimeMovesOnlyTimers: nothing due; a step due; a taking due; every timer running. -/
def running : State :=
  { base with
    u := { base.u with assembler := .collect [0x96] none 1 }
    d := { base.d with tx := .sending (frame 5 .ask []) 1 }
    entries := [some (exchange .ask (.farWait 1)), some (exchange .set (.ready ⟨.done, some 0, []⟩ 1)), none, none, none,
      none, none, some (exchange .ask .onLine)]
    order := [0, 7], handler := .window (frame 7 .ask []) 1, mode := .paused 1, line := .awaiting 7 5 1 }
theorem meets_own_steps :
    base.pending = [] ∧ base.pins.resetN = true ∧ base.due = [] ∧ running.pending = [] ∧ running.pins.resetN = true ∧
      running.due = [] ∧ ({ base with stepTimer := some 0 } : State).due = [.ladderStep] ∧
      (onU (frame 5 .ask []) base).due = [.stationRequest] ∧ (onD (frame 5 .data []) base).due = [.dAnswerFrame] := by
  decide +kernel

/-- ResetHoldsThePartUntilItEnds. -/
theorem meets_reset_holds : (after .resetNLow base).pins.resetN = false ∧ Instr.note ≠ .resetNLow ∧
    (∀ straps, Instr.note ≠ .resetEnd straps) ∧ ∀ p e, Instr.note ≠ .characterReceived p e :=
  ⟨by decide +kernel, by decide, fun _ => by simp, fun _ _ => by simp⟩

/-- ResetEmptiesTheExchangeTable, FullRestartAtTheEndOfItsDone, PolicyCarriesDiscoveryAndForwarding. -/
theorem meets_restart :
    (answering .restart).pins.resetN = true ∧ (answering .restart).u.tx = .sending (frame 5 .done []) 3 ∧
      (answering .restart).handler = .answering .restart ∧ base.pins.resetN = true ∧
      ({ base with restartDeaf := some 36864 } : State).restartDeaf = some 36864 ∧ base.u.slot = none ∧ base.d.slot = none := by
  decide +kernel

/-- SummaryIsTheHighestPendingLevel. -/
theorem meets_summary : base.FactorLevelsInRange ∧ base.TablesSized :=
  ⟨by unfold State.FactorLevelsInRange; decide +kernel, sized_base⟩

/-- FrameCharactersGiveTheFrameBack. -/
theorem meets_well_formed : (frame 126 .set (List.replicate 64 0)).WellFormed ∧ (frame 0 .note []).WellFormed ∧
    (frame 255 .refused [1, 0]).WellFormed ∧ ({ frame 1 .set [] with posted := true } : FrameRecord).WellFormed ∧
    ({ frame 1 .fault [9] with attn := 3 } : FrameRecord).WellFormed := by
  unfold FrameRecord.WellFormed; decide +kernel

/-- ContentIsMalformedExactly: a frame it accepts, and one for each condition. -/
theorem meets_content :
    (judgeContent askChars).isSome = true ∧
      ([[0x96, 5, 0x04, 3, 0, 0, 0], [0x96, 127, 1, 3, 0, 0, 0], [0x96, 0, 1, 3, 0, 0, 0], [0x96, 5, 3, 3, 0, 0, 0],
        [0x96, 5, 1, 0x80, 0, 0, 0], [0x96, 5, 1, 0x10, 0, 0, 0], [0x96, 5, 1, 0x20, 0, 0, 0], [0x96, 5, 1, 3, 0, 0, 1],
        [0x96, 5, 2, 3, 0, 0, 65], [0x96, 5, 0x13, 3, 0, 0, 0], [0x96, 5, 0x27, 3, 0, 0, 1]].all
          fun chars => (judgeContent chars).isNone) = true := by decide +kernel

/-- CharactersAreReadAsSampledUnlessBegunUnheard: a character at base's settings and a false start; a deaf port, one that has missed a
start bit, and one with nothing to take. -/
theorem meets_unheard :
    (answering .plain).deaf .u = true ∧ (answering .plain).u.slot = none ∧
      ({ base with u := { base.u with receiver := .missed } } : State).deaf .u = false := by decide +kernel
theorem meets_characters : 1 ≤ base.u.live.stopBits ∧ [false].getD 0 true = false ∧ [false].getD 8 true = true := by
  decide +kernel

/-- AFrameOnTheLineReachesTheSlot. -/
theorem meets_frame_on_the_line :
    ∀ p, (base.port p).slot = none ∧ 1 ≤ (base.port p).live.stopBits ∧ (base.port p).assembler = .hunt := by
  intro p; cases p <;> decide +kernel

theorem hears_base (p : Port) : base.Hears p := by cases p <;> exact ⟨⟨by decide +kernel, .inr (.inl rfl)⟩, by decide +kernel⟩
theorem hears_collecting (chars : List Byte) (e : Option CharError) : (collecting chars e).Hears .u :=
  ⟨⟨rfl, .inr (.inl rfl)⟩, Receiver.noConfusion⟩

/-- HuntTakesOnlyACleanLead: a clean LEAD, another byte, a false start. -/
theorem meets_hunt :
    (base.port .u).assembler = .hunt ∧ readCharacter (base.port .u).live (samples 0x96) = some ⟨0x96, none⟩ ∧
      readCharacter (base.port .u).live (samples 0x97) = some ⟨0x97, none⟩ ∧
      readCharacter (base.port .u).live [false] = none := by decide +kernel

/-- CollectedFramesEndUnderOneResult: a character for each clause, at the clause's boundary. -/
theorem meets_collected :
    (∀ b ∈ [0x05, 0x40, 0x41, 0x00, 0xEF, 0xEE], readCharacter base.u.live (samples b) = some ⟨b, none⟩) ∧
      (let six := askChars.take 6
       byteAt (six ++ [0x41]) 6 = 65 ∧ (six ++ [0x41]).length = 7 ∧ byteAt (six ++ [0x40]) 6 = 64) ∧
      (let seven := askChars.take 7
       (seven ++ [0x7F]).length < byteAt (seven ++ [0x7F]) 6 + 9) ∧
      (let eight := askChars.take 8
       (eight ++ [0xEF]).length = byteAt (eight ++ [0xEF]) 6 + 9 ∧ checkGood (eight ++ [0xEF]) = true ∧
         judgeContent (eight ++ [0xEF]) = some ⟨5, .ask, 3, false, 0, 0x10, []⟩ ∧ checkGood (eight ++ [0xEE]) = false) ∧
      (let body : List Byte := [0x05, 0x04, 0x03, 0x00, 0x10, 0x00]
       let bad := Config.lead :: body ++ [hiByte (check body), loByte (check body)]
       bad.length = byteAt bad 6 + 9 ∧ checkGood bad = true ∧ judgeContent bad = none) := by decide +kernel
theorem meets_collected_spoiled :
    (collecting (askChars.take 8) (some .parity)).u.assembler = .collect (askChars.take 8) (some .parity) 1 ∧
      (collecting (askChars.take 8) (some .framing)).u.assembler = .collect (askChars.take 8) (some .framing) 1 := ⟨rfl, rfl⟩
/-- A frame that ends while one waits behind an answer. -/
theorem meets_overrun :
    let s := onU (frame 5 .ask []) { collecting (askChars.take 8) none with handler := .answering .plain }
    s.Hears .u ∧ s.u.slot ≠ none :=
  ⟨⟨⟨by decide +kernel, .inr (.inr ⟨rfl, .plain, rfl⟩)⟩, Receiver.noConfusion⟩, by decide +kernel⟩

/-- GapLimitTruncatesTheFrame. -/
theorem meets_gap :
    (collecting [0x96] none).u.assembler = .collect [0x96] none 1 ∧ (collecting [0x96] none).u.receiver = .looking ∧
      base.u.assembler = .hunt := by decide +kernel

/-- AWaitingFrameStartsAndSendsItsBits: a frame that may start, one in its last stop bit, an idle port. -/
theorem meets_bits :
    (answering .plain).u.tx = .sending (frame 5 .done []) 3 ∧ (frame 5 .done []).chars[8]?.isSome = true ∧
      (let st := base.u.live
       let gone := 9 * 10 * (80 * st.divisor) - 3
       1 ≤ st.stopBits ∧ (8 * 10 + 9) * (80 * st.divisor) ≤ gone ∧ gone < (8 * 10 + 9 + 1) * (80 * st.divisor)) ∧
      base.driverEnable .u = false := by decide +kernel
theorem meets_transmit :
    let s : State := { base with d := { base.d with tx := .waiting (frame 5 .ask []) } }
    s.pins.resetN = true ∧ s.d.slot = none ∧ s.d.tx = .waiting (frame 5 .ask []) ∧ s.d.assembler = .hunt ∧
      s.d.receiver = .looking := by decide +kernel

/-- AnAnswerGoneBringsWhatItsMarkSays: each mark; D settings with the line free and not. -/
theorem meets_answer_gone :
    (∀ m ∈ [AnswerMark.plain, .uSettings, .dSettings],
      (answering m).pins.resetN = true ∧ (answering m).u.tx = .sending (frame 5 .done []) 3 ∧
        (answering m).handler = .answering m) ∧ base.LineIsFree := by
  refine ⟨by decide +kernel, (base.lineIsFree_iff).2 (by decide +kernel)⟩

/-- ARequestGoneIsAwaitedOrFreed: an ASK and a NOTE on the wire. -/
theorem meets_request_gone :
    let s (k : Kind) : State := lined (.sending 7 5)
      (holding 7 (exchange k .onLine) { base with d := { base.d with tx := .sending (frame 5 k []) 0 } })
    ∀ k ∈ [Kind.ask, .note], (s k).pins.resetN = true ∧ (s k).d.tx = .sending (frame 5 k []) 0 ∧
      (s k).line = .sending 7 5 ∧ (s k).entryAt 7 = some (exchange k .onLine) ∧
      (exchange k .onLine).key.kind = k := by decide +kernel

/-- AStoredFrameIsTakenFirst. -/
theorem meets_stored_first :
    (onU (frame 5 .ask []) base).CanTake (frame 5 .ask []) ∧
      (takingOf 126 (frame 5 .ask [])).command = .stationRequest ∧
      (∃ t, exec .stationRequest (onU (frame 5 .ask []) base) = .next t) ∧
      (onD (frame 5 .ask []) base).d.slot = some (frame 5 .ask []) ∧
      (∃ t, exec .foreignRequest (onD (frame 5 .ask []) base) = .next t) ∧
      ∃ t, exec .dAnswerFrame (onD (frame 5 .data []) base) = .next t :=
  ⟨takes _ _ (by decide +kernel), by decide +kernel, ⟨_, rfl⟩, by decide +kernel, ⟨_, rfl⟩, ⟨_, rfl⟩⟩

/-- TheSideDecidesTheAnswer: an ASK and a posted SET of a station of each side. -/
theorem meets_side :
    ∀ f ∈ [frame 1 .ask [], { frame 1 .set [1] with posted := true }], ∀ side ∈ [Side.localSide, .screened, .downstream],
      (onU f (sided 1 side base)).CanRequest f ∧ ((onU f (sided 1 side base)).stationAt f.addr).side = side := by
  intro f hf side hs
  refine ⟨⟨takes _ _ ?_, ?_, ?_, ?_⟩, ?_⟩ <;> revert side <;> revert f <;> decide +kernel

/-- AnUnknownStationIsJudgedInOrder: CLOSED, OPEN with the alias held, OPEN without; an address with no record. -/
theorem meets_unknown :
    let opened : State := { base with policy := .opened }
    let heldElsewhere : State := opened.withRecord 6 { opened.stationAt 6 with side := .screened, aliasAddr := 5 }
    (∀ s ∈ [base, opened, heldElsewhere], (onU (frame 5 .ask []) s).CanRequest (frame 5 .ask []) ∧
      ((onU (frame 5 .ask []) s).stationAt 5).side = .unknown ∧ (onU (frame 5 .ask []) s).NoLiveEntry (frame 5 .ask [])) ∧
    base.policy = .closed ∧ heldElsewhere.HeldByAnother 5 5 ∧ ¬ opened.HeldByAnother 5 5 := by
  refine ⟨?_, by decide +kernel, (State.heldByAnother_iff _ _ _).2 (by decide +kernel), ?_⟩
  · intro s hs
    refine ⟨⟨takes _ _ ?_, .inl rfl, by decide, ?_⟩, ?_, (State.noLiveEntry_iff _ _).2 ?_⟩ <;>
      revert s <;> decide +kernel
  · rw [State.heldByAnother_iff]; decide +kernel
theorem meets_no_record :
    (onU (frame 128 .ask []) base).CanTake (frame 128 .ask []) ∧ (frame 128 .ask []).addr ≠ base.mgmtAddr ∧
      isStation (frame 128 .ask []).addr = false ∧ (onU (frame 255 .data []) base).CanTake (frame 255 .data []) ∧
      base.handler = .idle := ⟨takes _ _ (by decide +kernel), by decide +kernel, by decide, takes _ _ (by decide +kernel), rfl⟩

/-- A request of station 5 that the handler judges: from the slot, and from a window. -/
def asked (f : FrameRecord) (s : State) : State := onU f (sided 5 .downstream s)
def windowed (f : FrameRecord) (s : State) : State := { s with handler := .window f 0 }
theorem judges_asked (f : FrameRecord) (s : State) (h : (asked f s).takeable = some f) (hk : f.kind = .ask ∨ f.kind = .set)
    (ha : f.addr = 5) (hm : s.mgmtAddr ≠ 5) (hd : ((asked f s).stationAt 5).side = .downstream) :
    (asked f s).Judges .stationRequest f :=
  .inl ⟨rfl, ⟨takes _ _ h, hk, by rw [ha]; rfl, by rw [ha]; exact fun e => hm e.symm⟩, .inl (by rw [ha]; exact hd)⟩
theorem judges_windowed (f : FrameRecord) (s : State) (h1 : s.pins.resetN = true) (h2 : s.u.slot = none)
    (h3 : s.u.assembler = .hunt) (hk : f.kind = .ask ∨ f.kind = .set) (ha : f.addr = 5) :
    (windowed f s).Judges .discoveryWindowExpiry f :=
  .inr ⟨rfl, h1, ⟨0, rfl⟩, h2, h3, hk, by rw [ha]; rfl⟩
theorem meets_judges : (asked (frame 5 .ask []) base).Judges .stationRequest (frame 5 .ask []) ∧
    (windowed (frame 5 .set [1]) base).Judges .discoveryWindowExpiry (frame 5 .set [1]) :=
  ⟨judges_asked _ _ (by decide +kernel) (.inl rfl) rfl (by decide +kernel) (by decide +kernel),
    judges_windowed _ _ rfl rfl rfl (.inr rfl) rfl⟩

/-- ARepeatIsAnsweredWithoutChange, AHeldOutcomeIsDeliveredOnce: an entry in each state; an UNKNOWN station's too. -/
theorem meets_repeat :
    ∀ ph ∈ [Phase.queued, .onLine, .farWait 0, .ready ⟨.data, some 3, [7]⟩ 0],
      let s := holding 7 (exchange .ask ph) base
      (asked (frame 5 .ask []) s).Judges .stationRequest (frame 5 .ask []) ∧
        (onU (frame 5 .ask []) s).Judges .stationRequest (frame 5 .ask []) ∧
        (windowed (frame 5 .ask []) s).Judges .discoveryWindowExpiry (frame 5 .ask []) ∧ s.LiveKeysDistinct ∧
        s.entryAt 7 = some (exchange .ask ph) ∧ (exchange .ask ph).key = (frame 5 .ask []).key := by
  intro ph hph
  refine ⟨judges_asked _ _ ?_ (.inl rfl) rfl ?_ ?_,
    .inl ⟨rfl, ⟨takes _ _ ?_, .inl rfl, by decide, ?_⟩, .inr ⟨?_, 7, exchange .ask ph, ?_, ?_, rfl⟩⟩,
    judges_windowed _ _ rfl rfl rfl (.inl rfl) rfl, keysDistinct_of _ ?_ ?_, ?_, rfl⟩ <;> revert ph <;> decide +kernel

/-- The four ways of judging a new write: no permit, spent, room wanting, room. -/
def spentState : State := { base with spent := [(frame 5 .set []).key] }
def fullState : State := { base with entries := List.replicate 8 (some { exchange .ask .withdrawn with key := ⟨9, .ask, 0, 0⟩ }) }
def shareState : State := holding 0 (exchange .ask .queued) { base with timing := { base.timing with share := 1 } }
def noPermit : State := base.withRecord 5 { base.stationAt 5 with permit := false }
/-- ANewWriteWithoutPermitIsDenied. -/
theorem meets_denied :
    (asked (frame 5 .set [1]) noPermit).Judges .stationRequest (frame 5 .set [1]) ∧
      (asked (frame 5 .set [1]) noPermit).NoLiveEntry (frame 5 .set [1]) ∧
      ((asked (frame 5 .set [1]) noPermit).stationAt 5).permit = false :=
  ⟨judges_asked _ _ (by decide +kernel) (.inr rfl) rfl (by decide +kernel) (by decide +kernel),
    (State.noLiveEntry_iff _ _).2 (by decide +kernel), by decide +kernel⟩
/-- ASpentWriteIsAnsweredStaleOnce. -/
theorem meets_stale :
    (asked (frame 5 .set [1]) spentState).Judges .stationRequest (frame 5 .set [1]) ∧
      (asked (frame 5 .set [1]) spentState).NoLiveEntry (frame 5 .set [1]) ∧
      ((asked (frame 5 .set [1]) spentState).stationAt 5).permit = true ∧ (frame 5 .set [1]).posted = false ∧
      (frame 5 .set [1]).key ∈ spentState.spent :=
  ⟨judges_asked _ _ (by decide +kernel) (.inr rfl) rfl (by decide +kernel) (by decide +kernel),
    (State.noLiveEntry_iff _ _).2 (by decide +kernel), by decide +kernel, rfl, by decide +kernel⟩
/-- ARequestWithoutRoomIsAnsweredBusy. -/
theorem meets_busy :
    (∀ s ∈ [fullState, shareState],
      (asked (frame 5 .set [1]) s).Judges .stationRequest (frame 5 .set [1]) ∧ (asked (frame 5 .set [1]) s).TablesSized ∧
        (asked (frame 5 .set [1]) s).NoLiveEntry (frame 5 .set [1]) ∧
        ((asked (frame 5 .set [1]) s).stationAt 5).permit = true ∧ (frame 5 .set [1]).key ∉ (asked (frame 5 .set [1]) s).spent) ∧
      (asked (frame 5 .set [1]) fullState).TableFull ∧ shareState.timing.share ≤ (asked (frame 5 .set [1]) shareState).liveCount 5 := by
  refine ⟨?_, by unfold State.TableFull; decide +kernel, by decide +kernel⟩
  intro s hs
  refine ⟨judges_asked _ _ ?_ (.inr rfl) rfl ?_ ?_, ?_, (State.noLiveEntry_iff _ _).2 ?_, ?_, ?_⟩ <;> revert s <;>
    (try unfold State.TablesSized) <;> decide +kernel
/-- AdmissionTakesTheLowestFreeEntry. -/
theorem meets_admission :
    let seven : State := { base with entries := (List.replicate 7 (some { exchange .ask .withdrawn with key := ⟨9, .ask, 0, 0⟩ })) ++ [none] }
    ∀ p ∈ [(base, 0), (seven, 7)],
      (asked (frame 5 .set [1]) p.1).Judges .stationRequest (frame 5 .set [1]) ∧ (asked (frame 5 .set [1]) p.1).TablesSized ∧
        (asked (frame 5 .set [1]) p.1).NoLiveEntry (frame 5 .set [1]) ∧
        ((asked (frame 5 .set [1]) p.1).stationAt 5).permit = true ∧
        (frame 5 .set [1]).key ∉ (asked (frame 5 .set [1]) p.1).spent ∧
        (asked (frame 5 .set [1]) p.1).liveCount 5 < p.1.timing.share ∧ (asked (frame 5 .set [1]) p.1).LowestFree p.2 := by
  intro seven p hp
  refine ⟨judges_asked _ _ ?_ (.inr rfl) rfl ?_ ?_, ?_, (State.noLiveEntry_iff _ _).2 ?_, ?_, ?_, ?_, ?_⟩ <;> revert p <;>
    (try unfold State.TablesSized) <;> (try unfold State.LowestFree) <;> decide +kernel

/-- ANoteIsForwardedOrDropped: forwarding off, a repeat, room in the last entry, no room. -/
theorem meets_note :
    let f := frame 0 .note [1]
    let repeated := holding 0 { exchange .note .queued with key := f.key } base
    (∀ s ∈ [{ base with forwarding := false }, repeated, base, fullState],
      (onU f s).CanTake f ∧ (onU f s).TablesSized) ∧
      (onU f repeated).entryAt 0 = some { exchange .note .queued with key := f.key } ∧
      base.forwarding = true ∧ (onU f base).NoLiveEntry f ∧ (onU f base).LowestFree 0 ∧ (onU f fullState).NoLiveEntry f ∧
      (onU f fullState).TableFull := by
  refine ⟨fun s hs => ⟨takes _ _ ?_, ?_⟩, by decide +kernel, rfl, (State.noLiveEntry_iff _ _).2 (by decide +kernel),
    ⟨by decide, by decide +kernel, fun j hj => absurd hj (by omega)⟩, (State.noLiveEntry_iff _ _).2 (by decide +kernel),
    by unfold State.TableFull; decide +kernel⟩ <;> revert s <;> (try unfold State.TablesSized) <;> decide +kernel

/-- AnAnswerOutsideAWindowIsClashChecked. -/
theorem meets_clash :
    ∀ p ∈ [(1, Side.downstream), (125, .screened), (5, .unknown), (5, .localSide)],
      (onU (frame p.1 .data []) (sided p.1 p.2 base)).CanTake (frame p.1 .data []) ∧
        ((onU (frame p.1 .data []) (sided p.1 p.2 base)).stationAt p.1).side = p.2 ∧ isStation p.1 = true ∧
        base.handler = .idle ∧ (frame p.1 .data []).kind.isRequest = false := by
  intro p hp
  refine ⟨takes _ _ ?_, ?_, ?_, rfl, rfl⟩ <;> revert p <;> decide +kernel

/-- AFrameClosesTheDiscoveryWindow: the station's own answer, another's, a request, an expiry in COLLECT. -/
theorem meets_window :
    let w (s : State) : State := windowed (frame 5 .ask []) s
    (w base).handler = .window (frame 5 .ask []) 0 ∧ (w base).pins.resetN = true ∧
      (onU (frame 5 .data []) (w base)).u.slot = some (frame 5 .data []) ∧ (onU (frame 5 .data []) (w base)).NoStartWhilePaused ∧
      ((onU (frame 5 .data []) (w base)).stationAt 5).side = .unknown ∧ (frame 6 .data []).addr ≠ (frame 5 .ask []).addr ∧
      ((onU (frame 5 .data []) (w five)).stationAt 5).side ≠ .unknown ∧ (frame 5 .set []).kind.isRequest = true ∧
      (w (collecting [0x96] none)).u.slot = none ∧ (w (collecting [0x96] none)).u.assembler ≠ .hunt :=
  ⟨rfl, rfl, rfl, noStart_of _ rfl, by decide +kernel, by decide, by decide +kernel, rfl, rfl, by decide +kernel⟩

/-- SelectionPicksTheHighestClassThenTheOldest: the table of section 6.2, entry 6 with older 4, 0, 2 and younger 1; and none to pick. -/
theorem meets_selection :
    practice.d.slot = none ∧ practice.pins.resetN = true ∧ practice.mode = .run ∧ practice.line = .idle ∧
      practice.order = [4, 0, 2] ++ 6 :: [1] ∧
      (∃ x, practice.entryAt 6 = some x ∧ x.phase = .queued ∧
        (∀ j ∈ [4, 0, 2], ∀ y ∈ practice.entryAt j, y.phase = .queued → practice.competesWith y < practice.competesWith x) ∧
        ∀ j ∈ [1], ∀ y ∈ practice.entryAt j, y.phase = .queued → practice.competesWith y ≤ practice.competesWith x) ∧
      base.order = [] :=
  ⟨by decide +kernel, by decide +kernel, by decide +kernel, by decide +kernel, by decide +kernel,
    ⟨⟨.queued, ⟨17, .ask, 1, 1⟩, false, false, 2, [], 0, 0⟩, by decide +kernel⟩, by decide +kernel⟩

/-- UnwantedFramesOnDOnlyCount: a foreign request, an answer on an IDLE line, one that does not match, one a waiting timer waited for. -/
theorem meets_unwanted :
    let s (τ : Nat) := onD (frame 6 .data []) (lined (.awaiting 7 5 τ) (holding 7 (exchange .ask .onLine) base))
    (frame 126 .set []).kind.isRequest = true ∧ base.line = .idle ∧ (s 1).OnTheLine 7 5 (exchange .ask .onLine) ∧
      ¬ Matches (exchange .ask .onLine) 5 (frame 6 .data []) ∧ (∀ i a, (s 1).line ≠ .awaiting i a 0) ∧
      (s 0).line = .awaiting 7 5 0 ∧ (s 0).entryAt 7 = some (exchange .ask .onLine) ∧ (s 0).d.assembler = .hunt := by
  refine ⟨rfl, rfl, ⟨.inr ⟨1, rfl⟩, by decide +kernel⟩, ?_, ?_, rfl, by decide +kernel, rfl⟩
  · rw [matches_iff]; decide +kernel
  · intro i a h; simp [onD, lined] at h

/-- The answers of chapter 6: one for each kind that can match, for an entry that is ON_LINE or WITHDRAWN, with its frame sent or still
waiting. -/
def answered (f : FrameRecord) (x : Exchange) : State := onD f (lined (.awaiting 7 5 1) (holding 7 x five))
theorem canMatch_answered (f : FrameRecord) (x : Exchange) (h1 : (answered f x).TablesSized) (h2 : answerMatches x 5 f = true)
    (h3 : (answered f x).entryAt 7 = some x) (h4 : isStation x.key.addr = true) : (answered f x).CanMatch f 7 5 x :=
  ⟨h1, rfl, rfl, ⟨.inr ⟨1, rfl⟩, h3⟩, (matches_iff _ _ _).2 h2, h4⟩
/-- AMatchingAnswerSettlesItsExchange, FarWaitsAndWithdrawnEntriesHoldNoAnswer. -/
theorem meets_answers :
    ∀ p ∈ [(frame 5 .data [1], Kind.ask), (frame 5 .done [], .set), (frame 5 .fault [1], .ask), (frame 5 .wait [], .set),
        (frame 5 .busy [], .ask), (frame 5 .absent [], .set), (frame 5 .denied [], .ask), (frame 5 .stale [], .set),
        (frame 5 .silent [], .ask)],
      ∀ ph ∈ [Phase.onLine, .withdrawn], ∀ d ∈ [false, true],
        (answered p.1 { exchange p.2 ph with discovery := d }).CanMatch p.1 7 5 { exchange p.2 ph with discovery := d } := by
  intro p hp ph hph d hd
  refine canMatch_answered _ _ ?_ ?_ ?_ ?_ <;> (try unfold State.TablesSized) <;> revert d <;> revert ph <;> revert p <;>
    decide +kernel
/-- ADiscoveryAnswerTeachesDownstream, FarWaitsAndWithdrawnEntriesHoldNoAnswer: the record's side and alias, and the re-ask limit. -/
theorem meets_discovery_answer :
    (base.stationAt 5).side = .unknown ∧ ¬ base.HeldByAnother 5 5 ∧
      (base.withRecord 6 { base.stationAt 6 with side := .downstream, aliasAddr := 5 }).HeldByAnother 5 5 ∧
      (five.stationAt 5).side ≠ .unknown ∧ (exchange .ask .onLine).reAsks < five.timing.reAskLimit ∧
      five.timing.reAskLimit ≤ ({ exchange .ask .onLine with reAsks := 8 } : Exchange).reAsks := by
  refine ⟨by decide +kernel, ?_, (State.heldByAnother_iff _ _ _).2 (by decide +kernel), by decide +kernel, by decide +kernel,
    by decide +kernel⟩
  rw [State.heldByAnother_iff]; decide +kernel

/-- AReplyTimeoutRetriesOrEndsSilent: COLLECT; WITHDRAWN; below the limit in RUN and in PAUSED; at the limit. -/
theorem meets_timeout :
    let s (x : Exchange) := lined (.awaiting 7 5 0) (holding 7 x five)
    (∀ x ∈ [exchange .ask .onLine, exchange .ask .withdrawn, { exchange .ask .onLine with attempts := 2 },
        { exchange .ask .onLine with attempts := 3 }],
      (s x).pins.resetN = true ∧ (s x).d.slot = none ∧ (s x).line = .awaiting 7 5 0 ∧ (s x).entryAt 7 = some x ∧
        isStation x.key.addr = true ∧ (s x).d.assembler = .hunt) ∧
      five.timing.retryLimit + 1 = 3 ∧ five.mode = .run ∧ (collecting [0x96] none).u.assembler ≠ .hunt ∧
      (after .pause (onU (managed .set 0x20 [0, 1]) five)).mode ≠ .run := by decide +kernel

/-- ReAskAndPauseTimersRunOut, AnUncollectedOutcomeIsDiscarded. -/
theorem meets_table_timers :
    base.pins.resetN = true ∧ (holding 7 (exchange .ask (.farWait 0)) base).entryAt 7 = some (exchange .ask (.farWait 0)) ∧
      base.entryAt 7 = none ∧ ({ base with mode := .paused 0 } : State).mode = .paused 0 ∧ base.mode = .run ∧
      (∀ k ∈ [Kind.done, .fault],
        (holding 7 (exchange .set (.ready ⟨k, some 0, []⟩ 0)) base).entryAt 7 = some (exchange .set (.ready ⟨k, some 0, []⟩ 0))) ∧
      isStation (exchange .set .queued).key.addr = true := by decide +kernel

/-- TheLadderStepAdvancesDownstreamRecords: a record at 1, at 7 and at 8. -/
theorem meets_ladder :
    five.TablesSized ∧ five.pins.resetN = true ∧ five.stepTimer = some (1000 * 36864) ∧ (five.stationAt 5).side = .downstream ∧
      (∀ l ∈ [1, 7, 8], ((five.withRecord 5 { five.stationAt 5 with level := l }).stationAt 5).level = l) :=
  ⟨sized_five, by decide +kernel, by decide +kernel, by decide +kernel, by decide +kernel⟩

/-- A management request of each kind and object, as the statements of chapter 9 ask for it. -/
theorem manages (k : Kind) (o : ObjectNumber) (payload : List Byte) (n : Nat) (h : o.toNat = n) :
    (onU (managed k o payload) base).CanManage (managed k o payload) k n :=
  have hm : 126 = base.mgmtAddr := by decide +kernel
  ⟨takes _ _ rfl, hm, rfl, h⟩
/-- RequestsAreRefusedForObjectKindAndLength. -/
theorem meets_management :
    (onU (managed .ask 0x0508 []) base).CanManage (managed .ask 0x0508 []) .ask 0x0508 ∧
      (onU (managed .set 0x0100 []) base).CanManage (managed .set 0x0100 []) .set 0x0100 ∧
      (onU (managed .ask 0x0002 []) base).CanManage (managed .ask 0x0002 []) .ask 0x0002 ∧
      (onU (managed .set 0x0507 []) base).CanManage (managed .set 0x0507 []) .set 0x0507 ∧
      (onU (managed .set 0x0012 (List.replicate 7 1)) base).CanManage (managed .set 0x0012 (List.replicate 7 1)) .set 0x0012 ∧
      (onU (managed .set 0x017E [0, 0, 0, 0]) base).CanManage (managed .set 0x017E [0, 0, 0, 0]) .set 0x017E ∧
      126 = base.mgmtAddr :=
  ⟨manages _ _ _ _ rfl, manages _ _ _ _ rfl, manages _ _ _ _ rfl, manages _ _ _ _ rfl, manages _ _ _ _ rfl,
    manages _ _ _ _ rfl, by decide +kernel⟩

/-- TheFirstBadFieldIsNamed, FactorLevelsAreWrittenTogether, ListedFactorsAreAcknowledged: first and last fields out of range. -/
theorem meets_first_bad :
    FirstOutside (byteValues [0, 9, 1, 1, 1, 4, 4, 9]) timingRanges 1 ∧
      FirstOutside (byteValues [255, 7, 255, 15, 255, 63, 8, 4]) timingRanges 8 ∧
      FirstOutside (portValues [0, 0, 0, 1, 1, 1]) portRanges 1 ∧ FirstOutside (portValues [3, 0xFF, 2, 2, 15, 16]) portRanges 5 ∧
      FirstOutside (byteValues [127]) [(1, 126)] 1 ∧
      FirstOutside (byteValues [3, 3, 3, 3, 3, 3, 3, 3, 3, 3, 4]) (List.replicate 11 (0, 3)) 11 ∧
      FirstOutside (byteValues [11, 12]) (List.replicate 2 (1, 11)) 2 := by
  simp only [firstOutside_iff, allInside_iff]
  exact ⟨⟨by decide, ⟨0, (1, 255), by decide +kernel⟩, by decide +kernel⟩,
    ⟨by decide, ⟨4, (0, 3), by decide +kernel⟩, by decide +kernel⟩,
    ⟨by decide, ⟨0, (1, 1023), by decide +kernel⟩, by decide +kernel⟩,
    ⟨by decide, ⟨16, (1, 15), by decide +kernel⟩, by decide +kernel⟩,
    ⟨by decide, ⟨127, (1, 126), by decide +kernel⟩, by decide +kernel⟩,
    ⟨by decide, ⟨4, (0, 3), by decide +kernel⟩, by decide +kernel⟩,
    ⟨by decide, ⟨12, (1, 11), by decide +kernel⟩, by decide +kernel⟩⟩
/-- STATION writes refused on each field: the side SELF, an alias out of range, one held, a class, a permit. -/
theorem meets_station_refused :
    ∀ p ∈ [[4, 5, 1, 1], [2, 127, 1, 1], [2, 0, 1, 1], [3, 5, 4, 1], [0, 0, 3, 2]],
      (onU (managed .set 0x101 p) five).CanManage (managed .set 0x101 p) .set 0x101 ∧ (managed .set 0x101 p).payload.length = 4 ∧
        isStation 1 = true ∧ 1 ≠ five.mgmtAddr := by
  intro p hp
  refine ⟨⟨takes _ _ rfl, ?_, rfl, rfl⟩, ?_, rfl, ?_⟩ <;> revert p <;> decide +kernel
theorem meets_station_held : five.HeldByAnother 1 5 ∧ ¬ five.HeldByAnother 5 5 := by
  refine ⟨(State.heldByAnother_iff _ _ _).2 (by decide +kernel), ?_⟩
  rw [State.heldByAnother_iff]; decide +kernel

/-- TimingIsWrittenWhole, PortSettingsAndRestartWaitForTheirDone: every field at its lowest and at its highest value. -/
theorem meets_all_inside :
    AllInside (byteValues [1, 0, 1, 0, 1, 2, 1, 0]) timingRanges ∧
      AllInside (byteValues [255, 7, 255, 15, 255, 63, 8, 3]) timingRanges ∧
      AllInside (portValues [0, 1, 0, 1, 0, 1]) portRanges ∧ AllInside (portValues [3, 0xFF, 2, 2, 15, 15]) portRanges := by
  simp only [allInside_iff]; decide +kernel
/-- The accepted SETs of chapter 9, FlushAndClearEndExchanges among them. -/
theorem meets_sets :
    (onU (managed .set 0x12 [1, 0, 1, 0, 1, 2, 1, 0]) base).CanManage (managed .set 0x12 [1, 0, 1, 0, 1, 2, 1, 0]) .set 0x12 ∧
      (onU (managed .set 0x13 [1, 1]) base).CanManage (managed .set 0x13 [1, 1]) .set 0x13 ∧
      (onU (managed .set 0x13 [2, 0]) base).CanManage (managed .set 0x13 [2, 0]) .set 0x13 ∧
      (onU (managed .set 0x13 [1, 2]) base).CanManage (managed .set 0x13 [1, 2]) .set 0x13 ∧
      (onU (managed .ask 0x13 []) base).CanManage (managed .ask 0x13 []) .ask 0x13 ∧
      (onU (managed .set 0x10 [0, 1, 0, 1, 0, 1]) base).CanManage (managed .set 0x10 [0, 1, 0, 1, 0, 1]) .set 0x10 ∧
      (onU (managed .set 0x11 [0, 1, 0, 1, 0, 1]) base).CanManage (managed .set 0x11 [0, 1, 0, 1, 0, 1]) .set 0x11 ∧
      (onU (managed .set 0x23 []) base).CanManage (managed .set 0x23 []) .set 0x23 ∧
      (onU (managed .set 0x03 (List.replicate 11 3)) base).CanManage (managed .set 0x03 (List.replicate 11 3)) .set 0x03 ∧
      (onU (managed .set 0x02 [1, 11, 11]) base).CanManage (managed .set 0x02 [1, 11, 11]) .set 0x02 ∧
      (onU (managed .set 0x20 [0, 0]) base).CanManage (managed .set 0x20 [0, 0]) .set 0x20 ∧
      (onU (managed .set 0x21 [126]) base).CanManage (managed .set 0x21 [126]) .set 0x21 ∧
      (onU (managed .set 0x22 []) base).CanManage (managed .set 0x22 []) .set 0x22 ∧
      (onU (managed .set 0x02 [1, 11, 11]) base).TablesSized ∧ (onU (managed .set 0x21 [126]) base).NoStartWhilePaused :=
  ⟨manages _ _ _ _ rfl, manages _ _ _ _ rfl, manages _ _ _ _ rfl, manages _ _ _ _ rfl, manages _ _ _ _ rfl,
    manages _ _ _ _ rfl, manages _ _ _ _ rfl, manages _ _ _ _ rfl, manages _ _ _ _ rfl, manages _ _ _ _ rfl,
    manages _ _ _ _ rfl, manages _ _ _ _ rfl, manages _ _ _ _ rfl, sized_base, noStart_of _ rfl⟩
/-- APauseWithdrawsAWaitingFrame: with a frame that waits and without. -/
theorem meets_pause :
    let s := lined (.sending 7 5)
      (holding 7 (exchange .ask .onLine) { five with d := { five.d with tx := .waiting (frame 5 .ask []) } })
    (onU (managed .set 0x20 [0, 1]) s).CanManage (managed .set 0x20 [0, 1]) .set 0x20 ∧ s.line = .sending 7 5 ∧
      s.entryAt 7 = some (exchange .ask .onLine) ∧ s.d.tx.isWaiting = true ∧ base.line = .idle :=
  ⟨⟨takes _ _ rfl, by decide +kernel, rfl, rfl⟩, rfl, by decide +kernel, rfl, rfl⟩
/-- AStationWriteIsStored: a write that changes nothing but class and permit, and one of each side that is a routing change. -/
theorem meets_station_write :
    (∀ q ∈ [(Side.downstream, [2, 5, 3, 0]), (.unknown, [0, 200, 0, 1]), (.localSide, [1, 126, 0, 1]), (.screened, [3, 1, 0, 1])],
      let f := managed .set 0x105 q.2
      (onU f five).CanManage f .set 0x105 ∧ f.payload.length = 4 ∧ q.1 ≠ .self ∧ byteAt f.payload 0 = q.1.code ∧
        byteAt f.payload 2 ≤ 3 ∧ byteAt f.payload 3 ≤ 1 ∧
        (q.1 ≠ .unknown → 1 ≤ byteAt f.payload 1 ∧ byteAt f.payload 1 ≤ 126)) ∧
      ¬ five.HeldByAnother 5 1 ∧ ¬ five.HeldByAnother 5 5 ∧ isStation 5 = true ∧ 5 ≠ five.mgmtAddr ∧ five.NoStartWhilePaused := by
  refine ⟨?_, ?_, meets_station_held.2, rfl, by decide +kernel, noStart_of _ (by decide +kernel)⟩
  · intro q hq
    refine ⟨⟨takes _ _ rfl, ?_, rfl, rfl⟩, ?_⟩ <;> revert q <;> decide +kernel
  · rw [State.heldByAnother_iff]; decide +kernel
/-- ReadAndClearIsRepeatedFromItsMemory: empty memory, a matching repeat, another TAG; for a station and for the ports. -/
theorem meets_read_and_clear :
    let s (o : ObjectNumber) (t : Tag) : State := { onU (managed .ask o []) base with memory := some ⟨o, t, [9]⟩ }
    (onU (managed .ask 0x301 []) base).CanManage (managed .ask 0x301 []) .ask 0x301 ∧ base.memory = none ∧
      (onU (managed .ask 0x401 []) base).CanManage (managed .ask 0x401 []) .ask 0x401 ∧
      (s 0x301 1).CanManage (managed .ask 0x301 []) .ask 0x301 ∧ (s 0x301 1).memory = some ⟨0x301, 1, [9]⟩ ∧
      (s 0x401 1).CanManage (managed .ask 0x401 []) .ask 0x401 ∧ (managed .ask 0x401 []).tag = 1 ∧
      ¬ ∃ m, (s 0x401 2).memory = some m ∧ m.object = 0x401 ∧ m.tag = 1 := by
  refine ⟨manages _ _ _ _ rfl, rfl, manages _ _ _ _ rfl, ⟨takes _ _ rfl, by decide +kernel, rfl, rfl⟩, rfl,
    ⟨takes _ _ rfl, by decide +kernel, rfl, rfl⟩, rfl, ?_⟩
  rintro ⟨m, hm, _, ht⟩
  simp only [Option.some.injEq] at hm
  subst hm
  exact absurd ht (by decide)
/-- PlainReadsAnswerInTheirLayoutAndChangeNothing: the objects at the ends of their ranges, a FREE entry and one in each state. -/
theorem meets_reads :
    (∀ o ∈ [(0x0000 : ObjectNumber), 0x0001, 0x0003, 0x0010, 0x0011, 0x0012, 0x0020, 0x0101, 0x017E, 0x0201, 0x027E, 0x0400,
        0x0500, 0x0507],
      (onU (managed .ask o []) base).CanManage (managed .ask o []) .ask o.toNat) ∧ base.entryAt 0 = none ∧
      running.entryAt 0 = some (exchange .ask (.farWait 1)) ∧ running.entryAt 7 = some (exchange .ask .onLine) :=
  ⟨fun _ _ => manages _ _ _ _ rfl, by decide +kernel, by decide +kernel, by decide +kernel⟩

/-- A state with one ASK of station 5 on the line, on its way through the table, whose next step is a ladder step. -/
def midway : State :=
  { lined (.awaiting 7 5 1) (holding 7 (exchange .ask .onLine) five) with
    spent := [⟨6, .set, 0x10, 1⟩], memory := some ⟨0x401, 1, []⟩, pending := [.ladderStep] }
theorem step_midway : ∃ t, step midway = .next t := ⟨_, rfl⟩
theorem midway_entries (i : Nat) (x : Exchange) (h : midway.entryAt i = some x) : i = 7 ∧ x = exchange .ask .onLine := by
  have hi := State.lt_of_entryAt _ i x h
  have hl : midway.entries.length = 8 := by decide +kernel
  have key : ∀ j < 8, midway.entryAt j = if j = 7 then some (exchange .ask .onLine) else none := by decide +kernel
  rw [key i (by omega)] at h
  split at h
  · next h7 => exact ⟨h7, (Option.some.inj h).symm⟩
  · exact absurd h (by simp)
theorem midway_entry_seven : midway.entryAt 7 = some (exchange .ask .onLine) := by decide +kernel
/-- The records of `midway`: station 5 DOWNSTREAM, 126 SELF, all else as reset left it. -/
theorem midway_records : ∀ a, isStation a = true →
    midway.stationAt a = { base.stationAt a with side := if a = 5 then .downstream else if a = 126 then .self else .unknown } ∧
      base.stationAt a = { side := if a = 126 then .self else .unknown, aliasAddr := a, cls := 1, permit := true, level := 1, counters := .zero } := by
  have h : ∀ a < 127, isStation a = true →
      midway.stationAt a =
          { base.stationAt a with side := if a = 5 then .downstream else if a = 126 then .self else .unknown } ∧
        base.stationAt a =
          { side := if a = 126 then .self else .unknown, aliasAddr := a, cls := 1, permit := true, level := 1
            counters := .zero } := by
    decide +kernel
  exact fun a ha => h a (by have := (isStation_iff a).1 ha; omega) ha
/-- EveryStepKeepsTheStationTable. -/
theorem meets_station_table : midway.TablesSized ∧ midway.OneSelf ∧ midway.SelfUntouched ∧ midway.SelfAsReset ∧
    midway.UnknownAliasOwn ∧ midway.AliasesDistinct := by
  have hm : midway.mgmtAddr = 126 := by decide +kernel
  refine ⟨by unfold State.TablesSized; decide +kernel, ⟨by rw [hm]; rfl, fun a ha => ?_⟩, ⟨fun i x hx => ?_, ?_, ?_⟩, ?_, ?_, ?_⟩
  · rw [(midway_records a ha).1, hm]
    by_cases h5 : a = 5
    · subst h5; decide
    · by_cases h6 : a = 126 <;> simp [h5, h6]
  · rw [hm, (midway_entries i x hx).2]; decide
  · intro f t h; exact absurd h (by simp [midway, lined, holding, five, sided, State.withRecord, base, State.reset, State.afterReset])
  · intro f h; exact absurd h (by simp [midway, lined, holding, five, sided, State.withRecord, base, State.reset, State.afterReset, PortState.afterReset])
  · unfold State.SelfAsReset; decide +kernel
  · intro a ha _; rw [(midway_records a ha).1, (midway_records a ha).2]
  · intro a b c ha hb h1 h2
    rw [(midway_records a ha).1, (midway_records a ha).2] at h1
    rw [(midway_records b hb).1, (midway_records b hb).2] at h2
    simp only [StationRecord.holdsAlias, Bool.and_eq_true, beq_iff_eq] at h1 h2
    exact h1.2.trans h2.2.symm
/-- EveryStepKeepsTheRanges. -/
theorem meets_ranges : midway.LevelsInRange ∧ midway.CountersInRange ∧ midway.FactorLevelsInRange ∧ midway.SettingsInRange ∧
    midway.AttemptsInRange := by
  refine ⟨fun a ha => ?_, ⟨fun p c => ?_, fun a c ha => ?_⟩, ?_, ⟨?_, fun p => ?_⟩, ⟨?_, ?_, fun i x hx => ?_⟩⟩
  · rw [(midway_records a ha).1, (midway_records a ha).2]; simp
  · cases p <;> cases c <;> decide +kernel
  · rw [(midway_records a ha).1, (midway_records a ha).2]; simp
  · unfold State.FactorLevelsInRange; decide +kernel
  · unfold Timing.InRange; decide +kernel
  · cases p <;> (unfold Settings.InRange; decide +kernel)
  · decide +kernel
  · decide +kernel
  · rw [(midway_entries i x hx).2]; unfold Exchange.CountsInRange
    exact ⟨by decide, by decide, fun h => absurd h (by decide), fun t h => absurd h (by simp [exchange])⟩
/-- EveryStepKeepsTheDownstreamLine. -/
theorem meets_downstream_line : midway.OrderExact ∧ midway.LineExact ∧ midway.DPortExact ∧ midway.NoStartWhilePaused := by
  have ho : midway.order = [7] := by decide +kernel
  have hl : midway.line = .awaiting 7 5 1 := by decide +kernel
  have ht : midway.d.tx = .idle := by decide +kernel
  refine ⟨⟨by rw [ho]; decide, fun i => ⟨fun h => ?_, ?_⟩⟩, fun i => ⟨fun h => ?_, ?_⟩, ⟨fun h => absurd ht h, fun f l h => ?_, ?_⟩, noStart_of _ (by rw [ht]; rfl)⟩
  · rw [ho, List.mem_singleton] at h; subst h; exact ⟨_, midway_entry_seven, rfl⟩
  · rintro ⟨x, hx, _⟩; rw [ho, (midway_entries i x hx).1]; simp
  · rw [hl] at h; obtain rfl := Option.some.inj h; exact ⟨_, midway_entry_seven, rfl⟩
  · rintro ⟨x, hx, _⟩; rw [hl, (midway_entries i x hx).1]; rfl
  · rw [ht] at h; exact absurd h (by simp)
  · decide +kernel
/-- EveryStepKeepsLiveExchangesDistinct. -/
theorem meets_live_exchanges : midway.LiveKeysDistinct ∧ midway.SpentExact ∧ midway.LiveStationsReachable := by
  have hs : midway.spent = [⟨6, .set, 0x10, 1⟩] := by decide +kernel
  refine ⟨fun i j x y hx hy _ _ _ => ?_, ⟨?_, ?_, fun k hk => ?_⟩, fun i x hx _ _ => ?_, ?_⟩
  · rw [(midway_entries i x hx).1, (midway_entries j y hy).1]
  · decide +kernel
  · rw [hs]; decide
  · rw [hs, List.mem_singleton] at hk
    subst hk
    exact ⟨rfl, fun i x hx _ => by rw [(midway_entries i x hx).2]; decide⟩
  · rw [(midway_entries i x hx).2]; exact ⟨rfl, .inl (by decide +kernel)⟩
  · intro f t h; exact absurd h (by simp [midway, lined, holding, five, sided, State.withRecord, base, State.reset, State.afterReset])
/-- EveryStepKeepsTheAnswerWithItsHandler. -/
theorem meets_answering : midway.AnsweringExact := by
  have h1 : midway.u.tx = .idle := by decide +kernel
  have h2 : midway.handler = .idle := by decide +kernel
  intro _
  rw [h1, h2]
  simp
/-- EveryFrameStoredOrSentIsWellFormed. -/
theorem meets_frames_sound : midway.FramesSound ∧ midway.LineExact ∧ midway.TablesSized := by
  refine ⟨⟨fun p f h => ?_, fun i x hx => ?_, fun a ha => ?_, ?_, ?_, ?_⟩, meets_downstream_line.2.1, meets_station_table.1⟩
  · have : (midway.port p).slot = none ∧ (midway.port p).tx.frame = none := by cases p <;> decide +kernel
    rcases h with h | h
    · rw [this.1] at h; exact absurd h (by simp)
    · rw [this.2] at h; exact absurd h (by simp)
  · rw [(midway_entries i x hx).2]; unfold Exchange.Sound
    exact ⟨by decide, by decide, by decide, by decide, by decide, fun o t h => absurd h (by simp [exchange])⟩
  · rw [(midway_records a ha).1, (midway_records a ha).2]; exact ha
  · intro i a t h x hx
    have hl : midway.line = .awaiting 7 5 1 := by decide +kernel
    rw [hl] at h
    rw [(midway_entries i x hx).2]
    rcases h with h | h
    · exact absurd h (by simp)
    · simp only [Line.awaiting.injEq] at h
      obtain ⟨_, rfl, _⟩ := h
      decide
  · intro f t h; exact absurd h (by simp [midway, lined, holding, five, sided, State.withRecord, base, State.reset, State.afterReset])
  · intro m h
    have hm : midway.memory = some ⟨0x401, 1, []⟩ := by decide +kernel
    rw [hm] at h
    obtain rfl := Option.some.inj h
    decide

end Sys2Proof.Tests
end

section
/-! The check and the judgement of a frame's characters, and the frame read back from its own
characters (O10, O11, O12). -/

namespace Sys2Proof.Machine

/-! ### The check (R8) -/

theorem checkBit_of_eq_msb (reg : BitVec 16) : checkBit reg reg.msb = reg <<< 1 := by
  simp [checkBit]

/-- Bits that are the register's own, taken from its top, shift the register out and feed nothing back (R8). -/
theorem foldl_checkBit_shiftOut (reg : BitVec 16) (bits : List Bool) (k : Nat)
    (h : ∀ j, (hj : j < bits.length) → bits[j] = reg.getMsbD (k + j)) :
    bits.foldl checkBit (reg <<< k) = reg <<< (k + bits.length) := by
  induction bits generalizing k with
  | nil => rfl
  | cons b rest ih =>
    have hb : b = (reg <<< k).msb := by
      rw [BitVec.msb_shiftLeft]; exact h 0 (by simp)
    have hrest : ∀ j, (hj : j < rest.length) → rest[j] = reg.getMsbD (k + 1 + j) := fun j hj => by
      rw [Nat.add_assoc, Nat.add_comm 1]; exact h (j + 1) (by simpa using hj)
    rw [List.foldl_cons, hb, checkBit_of_eq_msb, ← BitVec.shiftLeft_add, ih (k + 1) hrest, List.length_cons]
    congr 1
    omega

theorem checkByte_shiftOut (reg : BitVec 16) (k : Nat) (b : Byte)
    (h : ∀ j, j < 8 → b.getLsbD (7 - j) = reg.getMsbD (k + j)) : checkByte (reg <<< k) b = reg <<< (k + 8) := by
  rw [checkByte, ← List.foldl_map (f := fun k => b.getLsbD k) (g := checkBit)]
  refine foldl_checkBit_shiftOut reg _ k fun j hj => ?_
  have hj8 : j < 8 := hj
  rw [← h j hj8]
  interval_cases j <;> rfl

/-- A register fed its own two bytes is empty (R8). -/
theorem checkByte_own_bytes (reg : BitVec 16) : checkByte (checkByte reg (hiByte reg)) (loByte reg) = 0 := by
  have hhi : checkByte (reg <<< 0) (hiByte reg) = reg <<< (0 + 8) :=
    checkByte_shiftOut reg 0 _ fun j hj => by
      rw [hiByte, BitVec.getLsbD_extractLsb', BitVec.getMsbD]
      simp [show 7 - j < 8 by omega, show j < 16 by omega, show 8 + (7 - j) = 15 - j by omega]
  have hlo : checkByte (reg <<< 8) (loByte reg) = reg <<< (8 + 8) :=
    checkByte_shiftOut reg 8 _ fun j hj => by
      rw [loByte, BitVec.getLsbD_extractLsb', BitVec.getMsbD]
      simp [show 7 - j < 8 by omega, show 8 + j < 16 by omega, show 15 - (8 + j) = 7 - j by omega]
  rw [BitVec.shiftLeft_zero] at hhi
  rw [hhi, hlo]
  exact BitVec.shiftLeft_eq_zero (by decide)

/-! ### Bytes and words (R1, R2) -/

@[simp] theorem word16_hiByte_loByte (w : BitVec 16) : word16 (hiByte w) (loByte w) = w := by
  rw [word16, hiByte, loByte, BitVec.extractLsb'_append_extractLsb'_eq_extractLsb' (by rfl)]
  exact BitVec.extractLsb'_eq_self

theorem toNat_word16 (hi lo : Byte) : (word16 hi lo).toNat = 256 * hi.toNat + lo.toNat := by
  rw [word16, BitVec.toNat_append, ← Nat.shiftLeft_add_eq_or_of_lt lo.isLt, Nat.shiftLeft_eq]
  omega

theorem toNat_oneByte {n : Nat} (h : n ≤ 255) : (oneByte n).toNat = n := by
  rw [oneByte, BitVec.toNat_ofNat, Nat.mod_eq_of_lt (by omega)]

/-- The bits of a CTRL as sent: TAG below, POSTED, ATTN, and bit 7 clear (R2). -/
theorem getLsbD_ctrlByte (t : Tag) (p : Bool) (a : Attn) (k : Nat) :
    (ctrlByte t p a).getLsbD k = if k < 4 then t.getLsbD k else if k = 4 then p else a.getLsbD (k - 5) := by
  have hlow : (BitVec.ofBool p ++ t).getLsbD k = if k < 4 then t.getLsbD k else (BitVec.ofBool p).getLsbD (k - 4) :=
    BitVec.getLsbD_append
  have hhigh : (0#1 ++ a).getLsbD (k - 5) = if k - 5 < 2 then a.getLsbD (k - 5) else (0#1).getLsbD (k - 5 - 2) :=
    BitVec.getLsbD_append
  refine (BitVec.getLsbD_append (x := 0#1 ++ a) (y := BitVec.ofBool p ++ t)).trans ?_
  simp only [hlow, show 1 + 4 = 5 from rfl, hhigh]
  grind

@[simp] theorem ctrlTag_ctrlByte (t : Tag) (p : Bool) (a : Attn) : ctrlTag (ctrlByte t p a) = t := by
  refine BitVec.eq_of_getLsbD_eq fun i hi => ?_
  simp [ctrlTag, getLsbD_ctrlByte, hi]

@[simp] theorem ctrlPosted_ctrlByte (t : Tag) (p : Bool) (a : Attn) : ctrlPosted (ctrlByte t p a) = p :=
  getLsbD_ctrlByte t p a 4

@[simp] theorem ctrlAttn_ctrlByte (t : Tag) (p : Bool) (a : Attn) : ctrlAttn (ctrlByte t p a) = a := by
  refine BitVec.eq_of_getLsbD_eq fun i hi => ?_
  simp [ctrlAttn, getLsbD_ctrlByte, hi, show ¬ 5 + i < 4 by omega, show 5 + i ≠ 4 by omega]

/-- Bit 7 of a CTRL as sent is clear (R2). -/
theorem ctrlByte_bit7 (t : Tag) (p : Bool) (a : Attn) : (ctrlByte t p a).getLsbD 7 = false := by
  rw [getLsbD_ctrlByte]
  exact BitVec.getLsbD_of_ge a 2 (Nat.le_refl 2)

theorem bit7_iff (c : Byte) : c.getLsbD 7 = true ↔ 128 ≤ c.toNat := by
  have := c.isLt
  rw [BitVec.getLsbD, Nat.testBit_eq_decide_div_mod_eq, decide_eq_true_iff]
  omega

theorem ctrlPosted_eq (c : Byte) : ctrlPosted c = decide (c.toNat / 16 % 2 = 1) := by
  rw [ctrlPosted, BitVec.getLsbD, Nat.testBit_eq_decide_div_mod_eq]

theorem toNat_ctrlTag (c : Byte) : (ctrlTag c).toNat = c.toNat % 16 := by
  simp [ctrlTag]

theorem toNat_ctrlAttn (c : Byte) : (ctrlAttn c).toNat = c.toNat / 32 % 4 := by
  simp [ctrlAttn, Nat.shiftRight_eq_div_pow]

/-! ### Kinds (R4) -/

@[simp] theorem Kind.ofCode_code (k : Kind) : Kind.ofCode k.code = some k := by cases k <;> decide

theorem Kind.code_of_ofCode {b : Byte} {k : Kind} (h : Kind.ofCode b = some k) : k.code = b := by
  simpa using List.find?_some h

theorem Kind.ofCode_eq_none_iff (b : Byte) :
    Kind.ofCode b = none ↔
      b.toNat ∉ [0x01, 0x02, 0x03, 0x11, 0x12, 0x13, 0x21, 0x22, 0x23, 0x24, 0x25, 0x26, 0x27] := by
  have hcodes : [0x01, 0x02, 0x03, 0x11, 0x12, 0x13, 0x21, 0x22, 0x23, 0x24, 0x25, 0x26, 0x27] =
      Kind.all.map fun k => k.code.toNat := rfl
  rw [hcodes, Kind.ofCode, List.find?_eq_none]
  simp [BitVec.toNat_inj]

theorem Kind.eq_note_iff (k : Kind) : k = .note ↔ k.code.toNat = 0x03 := by cases k <;> decide

theorem Kind.eq_set_iff (k : Kind) : k = .set ↔ k.code.toNat = 0x02 := by cases k <;> decide

theorem Kind.isRequest_iff (k : Kind) : k.isRequest = true ↔ k.code.toNat ∈ [0x01, 0x02, 0x03] := by
  cases k <;> decide

/-- The lengths a kind does not allow, by its code (R4). -/
theorem Kind.lenAllowed_eq_false_iff (k : Kind) (n : Nat) :
    k.lenAllowed n = false ↔
      (k.code.toNat ∈ [0x01, 0x12, 0x21, 0x22, 0x23, 0x24, 0x25, 0x26] ∧ n ≠ 0) ∨
      (k.code.toNat ∈ [0x02, 0x03, 0x11] ∧ 64 < n) ∨ (k.code.toNat = 0x13 ∧ (n = 0 ∨ 64 < n)) ∨
      (k.code.toNat = 0x27 ∧ n ≠ 2) := by
  cases k <;> simp [Kind.lenAllowed, Kind.code]
  case fault => omega

theorem Kind.len_le_of_lenAllowed {k : Kind} {n : Nat} (h : k.lenAllowed n = true) : n ≤ 64 := by
  cases k <;> (simp [Kind.lenAllowed] at h; omega)

/-! ### The content judgement (R10) -/

theorem contentMalformed_iff (addr : Nat) (k : Kind) (c : Byte) (len : Nat) :
    contentMalformed addr k c len = true ↔
      addr = 127 ∨ (addr = 0 ∧ k ≠ .note) ∨ (k = .note ∧ addr ≠ 0) ∨ 128 ≤ c.toNat ∨
        (c.toNat / 16 % 2 = 1 ∧ k ≠ .set) ∨ (c.toNat / 32 % 4 ≠ 0 ∧ k.isRequest = true) ∨ k.lenAllowed len = false := by
  have hattn : ctrlAttn c ≠ 0 ↔ c.toNat / 32 % 4 ≠ 0 := by
    rw [← toNat_ctrlAttn, Ne, ← BitVec.toNat_inj]; rfl
  simp only [contentMalformed, Bool.or_eq_true, Bool.and_eq_true, bit7_iff, ctrlPosted_eq, ← hattn, or_assoc]
  simp

/-- What the content judgement answers: nothing for an unknown kind or malformed content, else the fields (R10, R11). -/
theorem judgeContent_eq_some_iff (chars : List Byte) (f : FrameRecord) :
    judgeContent chars = some f ↔
      ∃ k, Kind.ofCode (chars.getD 2 0) = some k ∧
        contentMalformed (byteAt chars 1) k (chars.getD 3 0) (byteAt chars 6) = false ∧
        f = { addr := byteAt chars 1, kind := k, tag := ctrlTag (chars.getD 3 0), posted := ctrlPosted (chars.getD 3 0)
              attn := ctrlAttn (chars.getD 3 0), object := word16 (chars.getD 4 0) (chars.getD 5 0)
              payload := (chars.drop 7).take (byteAt chars 6) } := by
  unfold judgeContent collectedLen
  generalize chars.getD 3 0 = c
  cases Kind.ofCode (chars.getD 2 0) with
  | none => simp
  | some k =>
    by_cases hm : contentMalformed (byteAt chars 1) k c (byteAt chars 6) = true
    · simp [hm]
    · simpa [hm] using eq_comm

theorem judgeContent_eq_none_iff (chars : List Byte) :
    judgeContent chars = none ↔
      ∀ k, Kind.ofCode (chars.getD 2 0) = some k →
        contentMalformed (byteAt chars 1) k (chars.getD 3 0) (byteAt chars 6) = true := by
  unfold judgeContent collectedLen
  generalize chars.getD 3 0 = c
  cases Kind.ofCode (chars.getD 2 0) with
  | none => simp
  | some k =>
    by_cases hm : contentMalformed (byteAt chars 1) k c (byteAt chars 6) = true <;> simp [hm]

theorem FrameRecord.wellFormed_iff (f : FrameRecord) (haddr : f.addr ≤ 255) :
    f.WellFormed ↔
      contentMalformed f.addr f.kind (ctrlByte f.tag f.posted f.attn) f.payload.length = false := by
  simp only [contentMalformed, Bool.or_eq_false_iff, Bool.and_eq_false_imp, ctrlPosted_ctrlByte, ctrlAttn_ctrlByte,
    ctrlByte_bit7]
  unfold FrameRecord.WellFormed
  grind

/-- What the content judgement passes is well formed, when all of the frame was collected (R10). -/
theorem FrameRecord.wellFormed_of_judgeContent {chars : List Byte} {f : FrameRecord}
    (h : judgeContent chars = some f) (hlen : byteAt chars 6 + 9 ≤ chars.length) : f.WellFormed := by
  obtain ⟨k, -, hc, rfl⟩ := (judgeContent_eq_some_iff chars f).1 h
  have haddr : byteAt chars 1 ≤ 255 := by have := (chars.getD 1 0).isLt; unfold byteAt; omega
  have hpay : ((chars.drop 7).take (byteAt chars 6)).length = byteAt chars 6 := by simp; omega
  simp only [contentMalformed, Bool.or_eq_false_iff, Bool.and_eq_false_imp] at hc
  simp only [FrameRecord.WellFormed, hpay, haddr, true_and]
  grind

theorem FrameRecord.wellFormed_of_judgeFrame {chars : List Byte} {e : Option CharError} {f : FrameRecord}
    (h : judgeFrame chars e = .wellFormed f) (hlen : byteAt chars 6 + 9 ≤ chars.length) : f.WellFormed := by
  unfold judgeFrame at h
  split at h
  · cases h
  · cases h
  · split at h
    · cases h
    · split at h
      · cases h
      · next g hg => cases h; exact wellFormed_of_judgeContent hg hlen

/-! ### A frame's own characters (R1, R14) -/

@[simp] theorem FrameRecord.length_body (f : FrameRecord) : f.body.length = f.payload.length + 6 := by
  simp [FrameRecord.body]

@[simp] theorem FrameRecord.length_chars (f : FrameRecord) : f.chars.length = f.payload.length + 9 := by
  simp [FrameRecord.chars]

theorem FrameRecord.chars_eq (f : FrameRecord) :
    f.chars = [Config.lead, oneByte f.addr, f.kind.code, ctrlByte f.tag f.posted f.attn, hiByte f.object,
      loByte f.object, oneByte f.payload.length] ++ (f.payload ++ [hiByte (check f.body), loByte (check f.body)]) := by
  simp [FrameRecord.chars, FrameRecord.body]

theorem FrameRecord.collectedBody_chars (f : FrameRecord) : collectedBody f.chars = f.body := by
  rw [collectedBody, length_chars, FrameRecord.chars]
  simp [← length_body]

theorem FrameRecord.checkGood_chars (f : FrameRecord) : checkGood f.chars = true := by
  have hhi : f.chars.getD (f.payload.length + 7) 0 = hiByte (check f.body) := by
    simp [FrameRecord.chars, List.getD_eq_getElem?_getD]
  have hlo : f.chars.getD (f.payload.length + 8) 0 = loByte (check f.body) := by
    simp [FrameRecord.chars, List.getD_eq_getElem?_getD]
  rw [checkGood, collectedBody_chars, length_chars, show f.payload.length + 9 - 2 = f.payload.length + 7 from rfl,
    show f.payload.length + 9 - 1 = f.payload.length + 8 from rfl, hhi, hlo, word16_hiByte_loByte, beq_self_eq_true]

theorem FrameRecord.WellFormed.len_le {f : FrameRecord} (h : f.WellFormed) : f.payload.length ≤ 64 := by
  obtain ⟨-, -, -, -, -, hl⟩ := h
  exact Kind.len_le_of_lenAllowed hl

theorem FrameRecord.WellFormed.byteAt_chars_six {f : FrameRecord} (h : f.WellFormed) :
    byteAt f.chars 6 = f.payload.length := by
  have := h.len_le
  rw [chars_eq]
  exact toNat_oneByte (by omega)

theorem FrameRecord.WellFormed.judgeContent_chars {f : FrameRecord} (h : f.WellFormed) :
    judgeContent f.chars = some f := by
  have haddr : byteAt f.chars 1 = f.addr := by rw [chars_eq]; exact toNat_oneByte h.1
  have hctrl : f.chars.getD 3 0 = ctrlByte f.tag f.posted f.attn := by rw [chars_eq]; rfl
  refine (judgeContent_eq_some_iff _ _).2 ⟨f.kind, ?_, ?_, ?_⟩
  · rw [chars_eq]; exact f.kind.ofCode_code
  · rw [haddr, hctrl, h.byteAt_chars_six]
    exact (f.wellFormed_iff h.1).1 h
  · rw [haddr, hctrl, h.byteAt_chars_six, chars_eq]
    simp

theorem FrameRecord.WellFormed.judgeFrame_chars {f : FrameRecord} (h : f.WellFormed) :
    judgeFrame f.chars none = .wellFormed f := by
  simp [judgeFrame, f.checkGood_chars, h.judgeContent_chars]

/-- Settles O10: the two bytes fed in are the register's own, and shift it out. -/
theorem checkOfAFrameWithItsCheckIsZero : Obligations.CheckOfAFrameWithItsCheckIsZero := by
  intro bytes
  rw [check, List.foldl_append]
  exact checkByte_own_bytes (check bytes)

/-- Settles O11: the characters pass the check (`checkGood_chars`) and the content judgement (`judgeContent_chars`). -/
theorem frameCharactersGiveTheFrameBack : Obligations.FrameCharactersGiveTheFrameBack :=
  fun f h => ⟨f.length_chars, h.judgeFrame_chars⟩

/-- Settles O12: the kind is unknown, or the conditions on a known kind are read by its code. -/
theorem contentIsMalformedExactly : Obligations.ContentIsMalformedExactly := by
  intro chars
  refine ⟨?_, fun f hf => ?_⟩
  · cases hk : Kind.ofCode (chars.getD 2 0) with
    | none =>
      exact iff_of_true ((judgeContent_eq_none_iff chars).2 fun k h => nomatch hk.symm.trans h)
        (.inl ((Kind.ofCode_eq_none_iff _).1 hk))
    | some k =>
      have hcode : k.code.toNat = byteAt chars 2 := congrArg BitVec.toNat (Kind.code_of_ofCode hk)
      have hknown := mt (Kind.ofCode_eq_none_iff (chars.getD 2 0)).2 (by rw [hk]; exact Option.some_ne_none k)
      rw [judgeContent_eq_none_iff]
      refine Iff.trans ?_ (or_iff_right hknown).symm
      simp only [hk, Option.some.injEq, forall_eq', contentMalformed_iff, Ne, Kind.eq_note_iff, Kind.eq_set_iff,
        Kind.isRequest_iff, Kind.lenAllowed_eq_false_iff, hcode]
      rfl
  · obtain ⟨k, hk, -, rfl⟩ := (judgeContent_eq_some_iff chars f).1 hf
    exact ⟨rfl, congrArg BitVec.toNat (Kind.code_of_ofCode hk), toNat_ctrlTag _, ctrlPosted_eq _, toNat_ctrlAttn _,
      toNat_word16 _ _, rfl⟩

end Sys2Proof.Machine
end

section
/-! Characters on the line: a character read back from its own samples, a frame received character by character (O14), and a frame's
bits on the data pin (O18). -/

namespace Sys2Proof.Machine

/-! ### Lists of equal pieces -/

/-- Place k of piece n in a list made of pieces of length m. -/
theorem getElem?_flatMap_of_length {α β : Type} (g : α → List β) {m : Nat} (hg : ∀ x, (g x).length = m)
    (xs : List α) (n k : Nat) (hk : k < m) : (xs.flatMap g)[n * m + k]? = xs[n]?.bind fun x => (g x)[k]? := by
  induction xs generalizing n with
  | nil => simp
  | cons x xs ih =>
    rw [List.flatMap_cons]
    cases n with
    | zero => simp [List.getElem?_append, hg, hk]
    | succ n =>
      have hlen : (g x).length ≤ (n + 1) * m + k := by rw [hg, Nat.succ_mul]; omega
      rw [List.getElem?_append_right hlen, hg, show (n + 1) * m + k - m = n * m + k by rw [Nat.succ_mul]; omega, ih]
      rfl

/-! ### A character's bits and samples (R17, R19) -/

theorem length_charBits (st : Settings) (b : Byte) : (charBits st b).length = st.bitsPerChar := by
  unfold charBits Settings.bitsPerChar
  split <;> simp <;> omega

/-- The line's level in bit k of a character: the start bit, the data bits, the parity bit if there is one, and mark from
then on (R17). -/
theorem getD_charBits (st : Settings) (b : Byte) (k : Nat) :
    (charBits st b).getD k true =
      if k = 0 then false
      else if k ≤ 8 then b.getLsbD (k - 1)
      else if k = 9 ∧ st.parity ≠ .none then parityBit st.parity b
      else true := by
  have hstops : ∀ n, (List.replicate st.stopBits true)[n]?.getD true = true := fun n => by
    rw [List.getElem?_replicate]
    split <;> rfl
  rw [List.getD_eq_getElem?_getD, charBits, List.append_assoc, List.append_assoc, List.singleton_append]
  rcases k with _ | k
  · rfl
  rw [List.getElem?_cons_succ]
  by_cases hdata : k < 8
  · rw [List.getElem?_append_left (by simpa using hdata)]
    simp [hdata, Nat.succ_le_of_lt hdata]
  · rw [List.getElem?_append_right (by simpa using hdata), List.length_map, List.length_range]
    by_cases hp : st.parity = .none
    · simp [hp, hstops, show ¬ k + 1 ≤ 8 by omega]
    · rcases Nat.lt_or_ge 8 k with hk | hk
      · obtain ⟨j, rfl⟩ : ∃ j, k = j + 9 := ⟨k - 9, by omega⟩
        simp [hp, hstops]
      · obtain rfl : k = 8 := by omega
        simp [hp]

/-- Every sample inside bit k of a character is at that bit's level (R18, R19). -/
theorem sampleAt_charSamples (st : Settings) (b : Byte) (k j : Nat) (hj : j < 16) :
    sampleAt (charSamples st b) (k * 16 + j) = (charBits st b).getD k true := by
  rw [sampleAt, charSamples, List.getD_eq_getElem?_getD,
    getElem?_flatMap_of_length _ (fun _ => List.length_replicate) _ k j hj, List.getD_eq_getElem?_getD]
  cases (charBits st b)[k]? with
  | none => rfl
  | some bit => exact congrArg (·.getD true) (List.getElem?_replicate_of_lt hj)

theorem sampleAt_midSample (st : Settings) (b : Byte) (k : Nat) :
    sampleAt (charSamples st b) (midSample k) = (charBits st b).getD k true := by
  rw [← sampleAt_charSamples st b k 8 (by decide), midSample, Config.samplesPerBit]
  congr 1
  omega

/-- Eight bits gathered one by one are the byte they come from (R19). -/
theorem sampledByte_eq (levels : List Bool) (b : Byte)
    (h : ∀ k, k < 8 → sampleAt levels (midSample (k + 1)) = b.getLsbD k) : sampledByte levels = b := by
  have hgather : ∀ n, n ≤ 8 → ∀ i, ((List.range n).foldl
      (fun acc k => if sampleAt levels (midSample (k + 1)) then acc ||| BitVec.twoPow 8 k else acc) 0#8).getLsbD i =
        (decide (i < n) && b.getLsbD i) := by
    intro n hn i
    induction n with
    | zero => simp
    | succ n ih =>
      have hacc := ih (Nat.le_of_succ_le hn)
      rw [List.range_succ, List.foldl_append, List.foldl_cons, List.foldl_nil, h n hn,
        apply_ite (BitVec.getLsbD · i), BitVec.getLsbD_or, BitVec.getLsbD_twoPow, hacc]
      grind
  refine BitVec.eq_of_getLsbD_eq fun i hi => ?_
  rw [sampledByte, hgather 8 (Nat.le_refl 8) i, decide_eq_true hi, Bool.true_and]

/-- A character sent at a receiver's settings is read as its byte, without error (R19, R20). -/
theorem readCharacter_charSamples (st : Settings) (b : Byte) : readCharacter st (charSamples st b) = some ⟨b, none⟩ := by
  have hedge : sampleAt (charSamples st b) 0 = false := by
    simpa using (sampleAt_charSamples st b 0 0 (by decide)).trans (getD_charBits st b 0)
  have hstart : sampleAt (charSamples st b) (midSample 0) = false := by
    rw [sampleAt_midSample, getD_charBits]; rfl
  have hvalue : sampledByte (charSamples st b) = b := sampledByte_eq _ b fun k hk => by
    rw [sampleAt_midSample, getD_charBits]
    simp [Nat.succ_le_of_lt hk]
  unfold readCharacter
  simp only [hedge, hstart, hvalue, sampleAt_midSample, getD_charBits]
  by_cases hp : st.parity = .none <;> simp [hp]

/-! ### A frame received character by character (R21, R22, R25, R26) -/

@[simp] theorem State.updatePort_updatePort (p : Port) (g k : PortState → PortState) (s : State) :
    (s.updatePort p g).updatePort p k = s.updatePort p fun q => k (g q) := by
  cases p <;> rfl

theorem State.updatePort_congr {p : Port} {g k : PortState → PortState} {s : State}
    (h : g (s.port p) = k (s.port p)) : s.updatePort p g = s.updatePort p k := by
  cases p
  · exact congrArg (fun q => { s with u := q }) h
  · exact congrArg (fun q => { s with d := q }) h

/-- A port hears as before after a change that leaves its slot and transmitter, unless it then misses a character. -/
theorem State.Hears.updatePort {s : State} {p : Port} (h : s.Hears p) (hs : (s.port p).slot = none)
    {g : PortState → PortState} (hslot : ∀ q, (g q).slot = q.slot) (htx : ∀ q, (g q).tx = q.tx)
    (hr : ∀ q, (g q).receiver ≠ .missed) : (s.updatePort p g).Hears p := by
  obtain ⟨⟨hdeaf, -⟩, -⟩ := h
  refine ⟨⟨?_, .inr (.inl (by simp [hslot, hs]))⟩, by simpa using hr _⟩
  simpa [State.deaf, State.driverEnable, htx] using hdeaf

/-- A port that hears delivers a character sent at its settings (R19). -/
theorem State.exec_charSamples {s : State} {p : Port} (h : s.Hears p) (b : Byte) :
    exec (.characterReceived p (.samples (charSamples (s.port p).live b))) s =
      .next (s.deliverCharacter p ⟨b, none⟩) := by
  rw [s.exec_characterReceived p _ h.1.2, State.lineEvent, s.endCharacter_of_hears p _ h, readCharacter_charSamples]

/-- State s with port p in the middle of a frame of which `done` has been collected without error. -/
def State.receiving (p : Port) (done : List Byte) (s : State) : State :=
  s.updatePort p fun q =>
    { q with receiver := .looking, sinceLast := some 0, assembler := .collect done none q.live.gapTime }

/-- State s with frame f received whole at port p (R26). -/
def State.received (p : Port) (f : FrameRecord) (s : State) : State :=
  s.updatePort p fun q =>
    { q with receiver := .looking, sinceLast := some 0, slot := some f, counters := q.counters.bump .framesIn }

section receiving

variable {s : State} {p : Port}

@[simp] theorem State.receiving_live (done : List Byte) : ((s.receiving p done).port p).live = (s.port p).live := by
  simp [State.receiving]

theorem State.Hears.receiving (h : s.Hears p) (hs : (s.port p).slot = none) (done : List Byte) :
    (s.receiving p done).Hears p :=
  h.updatePort hs (fun _ => rfl) (fun _ => rfl) (fun _ => nofun)

/-- LEAD in HUNT starts a frame (R21). -/
theorem State.deliverCharacter_lead (ha : (s.port p).assembler = .hunt) :
    s.deliverCharacter p ⟨Config.lead, none⟩ = s.receiving p [Config.lead] := by
  simp [State.deliverCharacter, State.huntCharacter, State.receiving, ha]

/-- A character in COLLECT meets the assembler as the last one left it (R22). -/
theorem State.deliverCharacter_receiving (done : List Byte) (b : Byte) :
    (s.receiving p done).deliverCharacter p ⟨b, none⟩ =
      (s.receiving p done).collectCharacter p ⟨b, none⟩ done none := by
  simp [State.deliverCharacter, State.receiving]

/-- LEN stands in what has been collected of a frame's characters from the seventh on (R22). -/
theorem collectedLen_of_append {f : FrameRecord} (hf : f.WellFormed) {done rest : List Byte}
    (h : done ++ rest = f.chars) (hlen : 7 ≤ done.length) : collectedLen done = f.payload.length := by
  rw [← hf.byteAt_chars_six, ← h, collectedLen, byteAt, byteAt, List.getD_append _ _ _ _ hlen]

/-- A character that is not the frame's last is collected (R22). -/
theorem State.collectCharacter_middle {f : FrameRecord} (hf : f.WellFormed) {done rest : List Byte} {b : Byte}
    (h : done ++ b :: rest = f.chars) (hrest : rest ≠ []) :
    (s.receiving p done).collectCharacter p ⟨b, none⟩ done none = s.receiving p (done ++ [b]) := by
  have happ : (done ++ [b]) ++ rest = f.chars := by simpa using h
  have hlen : (done ++ [b]).length + rest.length = f.payload.length + 9 := by
    rw [← List.length_append, happ, f.length_chars]
  have hpos := List.length_pos_of_ne_nil hrest
  have hle := hf.len_le
  unfold State.collectCharacter
  dsimp only
  rw [if_neg, if_neg]
  · simp [State.receiving]
  · rintro ⟨h7, hend⟩
    rw [collectedLen_of_append hf happ h7, frameLength] at hend
    omega
  · rintro ⟨h7, hover⟩
    rw [collectedLen_of_append hf happ h7.ge, Config.maxPayload] at hover
    omega

/-- The frame's last character ends it, judged well formed, in the empty slot (R25, R26). -/
theorem State.collectCharacter_last {f : FrameRecord} (hf : f.WellFormed) {done : List Byte} {b : Byte}
    (h : done ++ [b] = f.chars) (hs : (s.port p).slot = none) (ha : (s.port p).assembler = .hunt) :
    (s.receiving p done).collectCharacter p ⟨b, none⟩ done none = s.received p f := by
  have hlen := f.length_chars
  have hl : collectedLen f.chars = f.payload.length := hf.byteAt_chars_six
  unfold State.collectCharacter
  dsimp only
  rw [h, hl, hlen, if_neg (by omega), if_pos ⟨by omega, Nat.le_refl _⟩, State.endFrame, Option.none_or,
    hf.judgeFrame_chars]
  simp only [State.storeFrame, State.receiving, State.received, State.port_updatePort, hs, Option.isSome_none,
    Bool.false_eq_true, if_false, State.countPort, portFactor, State.raiseOpt, State.updatePort_updatePort]
  refine State.updatePort_congr ?_
  rw [← ha]

theorem receiveChars_receiving {f : FrameRecord} (hf : f.WellFormed) (hh : s.Hears p) (hs : (s.port p).slot = none)
    (ha : (s.port p).assembler = .hunt) (rest done : List Byte) (b : Byte) (h : done ++ b :: rest = f.chars) :
    receiveChars p (b :: rest) (s.receiving p done) = .next (s.received p f) := by
  induction rest generalizing done b with
  | nil =>
    rw [receiveChars, State.exec_charSamples (hh.receiving hs done), State.deliverCharacter_receiving,
      State.collectCharacter_last hf h hs ha]
    rfl
  | cons c rest ih =>
    rw [receiveChars, State.exec_charSamples (hh.receiving hs done), State.deliverCharacter_receiving,
      State.collectCharacter_middle hf h (List.cons_ne_nil c rest)]
    exact ih (done ++ [b]) c (by simpa using h)

end receiving

/-- Settles O14: LEAD starts the frame, each character but the last is collected, and the last ends it. -/
theorem aFrameOnTheLineReachesTheSlot : Obligations.AFrameOnTheLineReachesTheSlot := by
  intro p f s hf hh hs _ ha
  obtain ⟨b, rest, hrest⟩ : ∃ b rest, f.chars = Config.lead :: b :: rest := ⟨_, _, f.chars_eq⟩
  rw [hrest, receiveChars, State.exec_charSamples hh, State.deliverCharacter_lead ha]
  exact receiveChars_receiving hf hh hs ha rest [Config.lead] b hrest.symm

/-! ### A frame sent (R28, R29) -/

theorem Settings.bitsPerChar_eq (st : Settings) (h : 1 ≤ st.stopBits) :
    st.bitsPerChar = 10 + (if st.parity = .none then 0 else 1) + (st.stopBits - 1) := by
  rw [Settings.bitsPerChar]
  omega

theorem Settings.bitTime_eq (st : Settings) : st.bitTime = 80 * st.divisor := by
  rw [Settings.bitTime, Config.samplesPerBit, Config.unitsPerClock]
  omega

theorem frameTime_eq (st : Settings) (f : FrameRecord) :
    frameTime st f = (f.payload.length + 9) * st.bitsPerChar * st.bitTime := by
  rw [frameTime, f.length_chars, Settings.charTime, Nat.mul_assoc]

/-- In bit k of character n of a frame the data pin is at that bit's level (R29). -/
theorem Transmitter.level_sending (st : Settings) (f : FrameRecord) {left n k : Nat} {b : Byte}
    (hb : f.chars[n]? = some b) (hk : k < st.bitsPerChar)
    (hbit : (frameTime st f - left) / st.bitTime = n * st.bitsPerChar + k) :
    (Transmitter.sending f left).level st = (charBits st b).getD k true := by
  rw [Transmitter.level, hbit, List.getD_eq_getElem?_getD, List.getD_eq_getElem?_getD,
    getElem?_flatMap_of_length _ (length_charBits st) _ n k hk, hb]
  rfl

theorem PortState.mayStart_iff {q : PortState} {f : FrameRecord} (h : q.tx = .waiting f) :
    q.mayStart = true ↔ q.assembler = .hunt ∧ q.receiver ≠ .reading := by
  simp [PortState.mayStart, Transmitter.isWaiting, h]

theorem State.driverEnable_of_sending {s : State} {p : Port} {f : FrameRecord} {left : Nat}
    (h : (s.port p).tx = .sending f left) : s.driverEnable p = true := by
  rw [State.driverEnable, h]
  rfl

/-- A port is deaf while it sends (R30). -/
theorem State.deaf_of_driverEnable {s : State} {p : Port} (h : s.driverEnable p = true) : s.deaf p = true := by
  simp [State.deaf, h]

theorem Transmitter.level_of_not_driverEnable (st : Settings) {tx : Transmitter} (h : tx.driverEnable = false) :
    tx.level st = true := by
  cases tx with
  | idle => rfl
  | waiting f => rfl
  | sending f left => cases h

/-- With nothing to take first, TRANSMIT_START starts the waiting frame if it may (R28). -/
theorem State.exec_transmitStart {s : State} {p : Port} (hr : s.pins.resetN = true) (ht : s.NothingToTake p) :
    exec (.transmitStart p) s =
      .next (if (s.port p).mayStart then s.updatePort p PortState.startSending else s) := by
  simp only [exec, execTransmitStart, s.takeStored_of_nothingToTake p ht, hr, Bool.true_and]

/-- Settles O18: the start by `mayStart_iff`; the level by which bit of which character the time gone falls into. -/
theorem aWaitingFrameStartsAndSendsItsBits : Obligations.AWaitingFrameStartsAndSendsItsBits := by
  refine ⟨fun s p f hr ht htx => ⟨fun hstart => ?_, fun hwait => ?_⟩, fun s p h => ?_, ?_⟩
  · have hsent : (s.updatePort p fun q =>
        { q with tx := .sending f ((f.payload.length + 9) * q.live.charTime) }).driverEnable p = true :=
      State.driverEnable_of_sending (by rw [State.port_updatePort])
    refine ⟨_, ?_, rfl, hsent, State.deaf_of_driverEnable hsent⟩
    rw [State.exec_transmitStart hr ht, if_pos ((PortState.mayStart_iff htx).2 hstart)]
    refine congrArg _ (State.updatePort_congr ?_)
    simp only [PortState.startSending, htx, frameTime, f.length_chars]
  · rw [State.exec_transmitStart hr ht, if_neg (mt (PortState.mayStart_iff htx).1 hwait)]
  · exact Transmitter.level_of_not_driverEnable _ h
  · intro s p f left n bit b htx hb st bits bitTime gone hstop hbit hlow hhigh
    have hbits : st.bitsPerChar = bits := st.bitsPerChar_eq hstop
    have htime : st.bitTime = bitTime := st.bitTime_eq
    have hgone : frameTime st f - left = gone := by rw [frameTime_eq, hbits, htime]
    rw [State.txLevel, htx, Transmitter.level_sending st f hb (hbits ▸ hbit), getD_charBits]
    rw [hgone, hbits, htime]
    exact Nat.div_eq_of_lt_le hlow hhigh

end Sys2Proof.Machine
end

section
/-! Every step stores and sends well-formed frames only (O59): the condition taken apart, the rule of each operation for it, and
the commands from those rules. -/

namespace Sys2Proof.Machine

/-! ### The condition, taken apart

An operation may change an entry first and the line's state after it. So the condition is held against a line state `l` of
its own: `s.SoundOn l` says what `FramesSound`, `LineExact` and `TablesSized` say of `s` with `l` in the place of `s.line`. -/

/-- The frames a port holds are well formed. -/
def PortState.FramesWellFormed (q : PortState) : Prop :=
  ∀ f, q.slot = some f ∨ q.tx.frame = some f → f.WellFormed

/-- An outcome that an answer can carry (R39). -/
def HeldOutcome.Sound (o : HeldOutcome) : Prop :=
  o.kind.isRequest = false ∧ o.kind.lenAllowed o.payload.length = true

/-- A downstream address that a frame of the exchange can go to (R16). -/
def Exchange.CanGoTo (x : Exchange) (a : Nat) : Prop := a ≤ 126 ∧ (a = 0 ↔ x.key.kind = .note)

/-- The downstream address on the line if entry i is the one on it. -/
def Line.addressFor (i : Nat) : Line → Option Nat
  | .idle => none
  | .sending j a => if i = j then some a else none
  | .awaiting j a _ => if i = j then some a else none

/-- An entry beside the address on the line for it: it holds the line exactly while there is one. -/
def EntryFits : Option Nat → Option Exchange → Prop
  | none, none => True
  | some _, none => False
  | none, some x => x.Sound ∧ x.holdsLine = false
  | some a, some x => x.Sound ∧ x.holdsLine = true ∧ x.CanGoTo a

/-- Eight entries, each fitting the line. -/
def State.TableFits (l : Line) (s : State) : Prop :=
  s.entries.length = 8 ∧ ∀ i, EntryFits (l.addressFor i) (s.entryAt i)

/-- 126 records, each with a downstream address that is a station's address. -/
def State.AliasesSound (s : State) : Prop :=
  s.stations.length = 126 ∧ ∀ a, isStation a = true → isStation (s.stationAt a).aliasAddr = true

/-- What a window holds is a request for a station. -/
def Handler.HoldsRequest (h : Handler) : Prop :=
  ∀ f t, h = .window f t → f.WellFormed ∧ f.kind.isRequest = true ∧ isStation f.addr = true

/-- The whole condition with `l` in the place of the line's state. -/
structure State.SoundOn (l : Line) (s : State) : Prop where
  u : s.u.FramesWellFormed
  d : s.d.FramesWellFormed
  table : s.TableFits l
  stations : s.AliasesSound
  handler : s.handler.HoldsRequest
  memory : ∀ m, s.memory = some m → m.payload.length ≤ 64
  factors : s.factors.length = 11

/-- The whole condition. -/
def State.Sound (s : State) : Prop := s.SoundOn s.line

theorem Line.addressFor_eq_some_iff (l : Line) (i a : Nat) :
    l.addressFor i = some a ↔ l = .sending i a ∨ ∃ t, l = .awaiting i a t := by
  cases l <;> simp [Line.addressFor] <;> grind

theorem Line.entry_eq_some_iff (l : Line) (i : Nat) : l.entry = some i ↔ ∃ a, l.addressFor i = some a := by
  cases l <;> simp [Line.addressFor, Line.entry, eq_comm]

/-- At most one entry is on the line. -/
theorem Line.addressFor_of_ne {l : Line} {i j a : Nat} (h : l.addressFor i = some a) (hj : j ≠ i) :
    l.addressFor j = none := by
  cases l <;> simp [Line.addressFor] at h ⊢ <;> grind

@[simp] theorem Line.addressFor_idle (i : Nat) : Line.addressFor i .idle = none := rfl

@[simp] theorem Line.addressFor_sending_self (i a : Nat) : (Line.sending i a).addressFor i = some a := by
  simp [Line.addressFor]

@[simp] theorem Line.addressFor_awaiting_self (i a t : Nat) : (Line.awaiting i a t).addressFor i = some a := by
  simp [Line.addressFor]

@[simp] theorem Line.addressFor_tick (l : Line) (i : Nat) : l.tick.addressFor i = l.addressFor i := by
  cases l <;> rfl

theorem EntryFits.sound {d : Option Nat} {x : Exchange} (h : EntryFits d (some x)) : x.Sound := by
  cases d <;> exact h.1

/-- A change that leaves the request of an exchange and whether it holds the line keeps it fitting. -/
theorem EntryFits.change {d : Option Nat} {x y : Exchange} (h : EntryFits d (some x)) (hs : y.Sound)
    (hh : y.holdsLine = x.holdsLine) (hk : y.key = x.key) : EntryFits d (some y) := by
  cases d with
  | none => exact ⟨hs, hh.trans h.2⟩
  | some a => exact ⟨hs, hh.trans h.2.1, by rw [Exchange.CanGoTo, hk]; exact h.2.2⟩

/-- The condition is what the statement says. -/
theorem State.sound_iff (s : State) : s.Sound ↔ s.FramesSound ∧ s.LineExact ∧ s.TablesSized := by
  constructor
  · rintro ⟨hu, hd, ⟨hlen, hfit⟩, ⟨hslen, hal⟩, hh, hm, hf⟩
    refine ⟨⟨fun p => ?_, fun i x hx => ?_, hal, fun i a t hl x hx => ?_, hh, hm⟩, fun i => ?_, hlen, hslen, hf⟩
    · cases p <;> assumption
    · have := hfit i; rw [hx] at this; exact this.sound
    · have := hfit i
      rw [hx, (s.line.addressFor_eq_some_iff i a).2 (hl.imp_right fun h => ⟨t, h⟩)] at this
      exact this.2.2
    · have := hfit i
      rw [Line.entry_eq_some_iff]
      revert this
      cases s.line.addressFor i <;> cases s.entryAt i <;> simp +contextual [EntryFits]
  · rintro ⟨⟨hp, hx, hal, hl, hh, hm⟩, hle, hlen, hslen, hf⟩
    refine ⟨hp .u, hp .d, ⟨hlen, fun i => ?_⟩, ⟨hslen, hal⟩, hh, hm, hf⟩
    have hi := hle i
    rw [Line.entry_eq_some_iff] at hi
    have hax : ∀ a x, s.line.addressFor i = some a → s.entryAt i = some x → x.CanGoTo a := fun a x ha he => by
      rcases (s.line.addressFor_eq_some_iff i a).1 ha with h | ⟨t, h⟩
      · exact hl i a 0 (.inl h) x he
      · exact hl i a t (.inr h) x he
    cases ha : s.line.addressFor i with
    | none =>
      cases he : s.entryAt i with
      | none => trivial
      | some x => exact ⟨hx i x he, by simpa [ha, he] using hi⟩
    | some a =>
      cases he : s.entryAt i with
      | none => simp [ha, he] at hi
      | some x => exact ⟨hx i x he, by simpa [ha, he] using hi, hax a x ha he⟩

/-! ### Frames and exchanges -/

theorem Exchange.Sound.withPhase {x : Exchange} (h : x.Sound) (p : Phase) (attempts reAsks : Nat)
    (hp : ∀ o t, p = .ready o t → o.Sound) :
    ({ x with phase := p, attempts := attempts, reAsks := reAsks } : Exchange).Sound := by
  obtain ⟨hr, ha, h0, hpost, hlen, -⟩ := h
  exact ⟨hr, ha, h0, hpost, hlen, hp⟩

/-- The request frame of a sound exchange is well formed (R16). -/
theorem Exchange.Sound.requestFrame {x : Exchange} (h : x.Sound) {a : Nat} (ha : x.CanGoTo a) :
    (x.requestFrame a).WellFormed := by
  obtain ⟨hr, -, -, -, hlen, -⟩ := h
  obtain ⟨hle, h0⟩ := ha
  exact ⟨show a ≤ 255 by omega, show a ≠ 127 by omega, h0, by simp +contextual [Exchange.requestFrame],
    fun _ => rfl, hlen⟩

/-- An admitted request is a sound exchange (R43). -/
theorem newExchange_sound {f : FrameRecord} (hf : f.WellFormed) (hr : f.kind.isRequest = true) (ha : f.addr ≤ 126)
    (disc : Bool) (cls : Nat) : (newExchange f disc cls).Sound := by
  obtain ⟨-, -, h0, -, -, hlen⟩ := hf
  refine ⟨hr, ha, h0, by simp +contextual [newExchange, FrameRecord.key], ?_, by simp [newExchange]⟩
  by_cases hk : f.kind = .ask
  · simp [newExchange, FrameRecord.key, hk, Kind.lenAllowed]
  · simpa [newExchange, FrameRecord.key, hk] using hlen

/-- An answer to a request that does not go to address 0 is well formed (R15). -/
theorem FrameRecord.WellFormed.answerFrame {f : FrameRecord} (hf : f.WellFormed) (h0 : f.addr ≠ 0) {kind : Kind}
    (hk : kind.isRequest = false) (attn : Attn) {payload : List Byte} (hlen : kind.lenAllowed payload.length = true) :
    (answerFrame f kind attn payload).WellFormed := by
  obtain ⟨hle, h127, -⟩ := hf
  have hnote : kind ≠ .note := by rintro rfl; cases hk
  exact ⟨hle, h127, iff_of_false h0 hnote, nofun, fun h => absurd (h.symm.trans hk) nofun, hlen⟩

theorem silentOutcome_sound : silentOutcome.Sound := ⟨rfl, rfl⟩

theorem outcomeOf_sound {f : FrameRecord} (hf : f.WellFormed) (hr : f.kind.isRequest = false) :
    (outcomeOf f).Sound := by
  unfold outcomeOf
  split
  · exact silentOutcome_sound
  · obtain ⟨-, -, -, -, -, hlen⟩ := hf
    exact ⟨hr, hlen⟩

theorem addr_ne_zero_of_isStation {a : Nat} (h : isStation a = true) : a ≠ 0 := by
  have := (isStation_iff a).1 h
  omega

namespace State.SoundOn

variable {s : State} {l : Line}

/-! ### Fields the condition does not read, and ports -/

theorem sound (h : s.SoundOn l) (hl : s.line = l) : s.Sound := by
  rwa [State.Sound, hl]

/-- A change of every entry that keeps it fitting the line keeps the condition, with the ports, the handler and the number of
factors judged anew. -/
theorem of_map {t : State} (h : s.SoundOn l) {g : Option Exchange → Option Exchange} (he : t.entries = s.entries.map g)
    (hnone : g none = none) (hg : ∀ d x, EntryFits d (some x) → EntryFits d (g (some x)))
    (hu : t.u.FramesWellFormed) (hd : t.d.FramesWellFormed) (hs : t.stations = s.stations)
    (hh : t.handler.HoldsRequest) (hm : t.memory = s.memory) (hf : t.factors.length = s.factors.length) :
    t.SoundOn l where
  u := hu
  d := hd
  table := by
    refine ⟨by simpa [he] using h.table.1, fun i => ?_⟩
    have hi := h.table.2 i
    rw [show t.entryAt i = g (s.entryAt i) by rw [State.entryAt, he]; exact s.entryAt_map g hnone i]
    cases hx : s.entryAt i with
    | none => rwa [hnone, ← hx]
    | some x => exact hg _ x (hx ▸ hi)
  stations := by simpa only [State.AliasesSound, State.stationAt, hs] using h.stations
  handler := hh
  memory := hm ▸ h.memory
  factors := hf.trans h.factors

/-- A change of state is judged by the ports, the handler and the number of factors alone when entries, records and
memory stay. -/
theorem of_fields {t : State} (h : s.SoundOn l) (hu : t.u.FramesWellFormed) (hd : t.d.FramesWellFormed)
    (he : t.entries = s.entries) (hs : t.stations = s.stations) (hh : t.handler.HoldsRequest)
    (hm : t.memory = s.memory) (hf : t.factors.length = s.factors.length) : t.SoundOn l :=
  h.of_map (g := id) (by rw [he, List.map_id]) rfl (fun _ _ hx => hx) hu hd hs hh hm hf

theorem updatePort (h : s.SoundOn l) (p : Port) {g : PortState → PortState}
    (hg : ∀ q : PortState, q.FramesWellFormed → (g q).FramesWellFormed) : (s.updatePort p g).SoundOn l := by
  cases p with
  | u => exact h.of_fields (hg _ h.u) h.d rfl rfl h.handler rfl rfl
  | d => exact h.of_fields h.u (hg _ h.d) rfl rfl h.handler rfl rfl

theorem port (h : s.SoundOn l) (p : Port) : (s.port p).FramesWellFormed := by
  cases p
  · exact h.u
  · exact h.d

theorem raise (h : s.SoundOn l) (f : Factor) : (s.raise f).SoundOn l :=
  h.of_fields h.u h.d rfl rfl h.handler rfl (s.factors_length_raise f)

theorem raiseOpt (h : s.SoundOn l) (f : Option Factor) : (s.raiseOpt f).SoundOn l := by
  cases f with
  | none => exact h
  | some g => exact h.raise g

theorem countPort (h : s.SoundOn l) (p : Port) (c : PortCounter) : (s.countPort p c).SoundOn l :=
  (h.updatePort p (g := fun q => { q with counters := q.counters.bump c }) fun _ hq => hq).raiseOpt _

theorem setHandler (h : s.SoundOn l) {x : Handler} (hx : x.HoldsRequest) : ({ s with handler := x } : State).SoundOn l :=
  h.of_fields h.u h.d rfl rfl hx rfl rfl

theorem silence (h : s.SoundOn l) : s.silence.SoundOn l := h.setHandler nofun

theorem setLine (h : s.SoundOn l) (k : Line) : ({ s with line := k } : State).SoundOn l :=
  h.of_fields h.u h.d rfl rfl h.handler rfl rfl

theorem setOrder (h : s.SoundOn l) (o : List Nat) : ({ s with order := o } : State).SoundOn l :=
  h.of_fields h.u h.d rfl rfl h.handler rfl rfl

theorem removeSpent (h : s.SoundOn l) (k : Key) : (s.removeSpent k).SoundOn l :=
  h.of_fields h.u h.d rfl rfl h.handler rfl rfl

theorem addSpent (h : s.SoundOn l) (k : Key) : (s.addSpent k).SoundOn l :=
  h.of_fields h.u h.d rfl rfl h.handler rfl rfl

theorem forgetMemory (h : s.SoundOn l) : s.forgetMemory.SoundOn l :=
  ⟨h.u, h.d, h.table, h.stations, h.handler, nofun, h.factors⟩

theorem handOver (h : s.SoundOn l) (p : Port) {f : FrameRecord} (hf : f.WellFormed) : (s.handOver p f).SoundOn l :=
  h.updatePort p fun _ hq g hg => hg.elim (fun hs => hq g (.inl hs)) fun ht => Option.some.inj ht ▸ hf

theorem withdrawFrame (h : s.SoundOn l) : s.withdrawFrame.SoundOn l := by
  unfold State.withdrawFrame
  split
  · exact h.updatePort .d fun _ hq f hf => hq f (hf.imp_right nofun)
  · exact h

theorem settleDSettings (h : s.SoundOn l) : s.settleDSettings.SoundOn l := by
  rcases s.settleDSettings_cases with he | ⟨-, -, -, he⟩ <;> rw [he]
  · exact h
  · exact h.of_fields h.u h.d rfl rfl h.handler rfl rfl

theorem lineIdle (h : s.SoundOn .idle) : s.lineIdle.Sound :=
  (h.setLine .idle).settleDSettings.sound (by simp)

/-! ### Station records -/

theorem updateStation (h : s.SoundOn l) (a : Nat) {g : StationRecord → StationRecord}
    (hg : isStation a = true → isStation (g (s.stationAt a)).aliasAddr = true) : (s.updateStation a g).SoundOn l where
  u := by simpa using h.u
  d := by simpa using h.d
  table := by simpa [State.TableFits, State.entryAt] using h.table
  stations := by
    refine ⟨by simpa using h.stations.1, fun b hb => ?_⟩
    rcases s.stationAt_updateStation_or a b g with hs | ⟨-, ha, hs⟩ <;> rw [hs]
    · exact h.stations.2 b hb
    · exact hg ha
  handler := by simpa using h.handler
  memory := by simpa using h.memory
  factors := by simpa using h.factors

theorem countStation (h : s.SoundOn l) (c : StationCounter) (a : Nat) : (s.countStation c a).SoundOn l :=
  h.updateStation a (h.stations.2 a)

theorem setLevel (h : s.SoundOn l) (a level : Nat) : (s.setLevel a level).SoundOn l := by
  have hs := h.updateStation a (g := fun r => { r with level := level }) (h.stations.2 a)
  unfold State.setLevel
  split
  · dsimp only
    split
    · exact hs.raise _
    · exact hs
  · exact h

theorem advanceLevel (h : s.SoundOn l) (a : Nat) : (s.advanceLevel a).SoundOn l := h.setLevel a _

theorem learnDownstream (h : s.SoundOn l) (a : Nat) : (s.learnDownstream a).SoundOn l := by
  unfold State.learnDownstream
  split
  · exact h
  · split
    · exact h.raise _
    · exact (h.updateStation a id).raise _

/-! ### Entries -/

theorem exchange_sound (h : s.SoundOn l) {i : Nat} {x : Exchange} (hx : s.entryAt i = some x) : x.Sound :=
  (hx ▸ h.table.2 i).sound

theorem index_lt (h : s.SoundOn l) {i : Nat} {x : Exchange} (hx : s.entryAt i = some x) : i < 8 :=
  h.table.1 ▸ s.lt_of_entryAt i x hx

theorem canGoTo (h : s.SoundOn l) {i a : Nat} {x : Exchange} (hl : l.addressFor i = some a)
    (hx : s.entryAt i = some x) : x.CanGoTo a := by
  have := h.table.2 i
  rw [hl, hx] at this
  exact this.2.2

/-- An entry on the line is not FREE. -/
theorem entryAt_ne_none (h : s.SoundOn l) {i a : Nat} (hl : l.addressFor i = some a) :
    s.entryAt i ≠ none := fun hx => by
  have := h.table.2 i
  rwa [hl, hx] at this

/-- An entry that does not hold the line is not on it. -/
theorem addressFor_eq_none (h : s.SoundOn l) {i : Nat} (hx : ∀ x, s.entryAt i = some x → x.holdsLine = false) :
    l.addressFor i = none := by
  have hi := h.table.2 i
  cases hl : l.addressFor i with
  | none => rfl
  | some a =>
    cases he : s.entryAt i with
    | none => exact absurd he (h.entryAt_ne_none hl)
    | some x =>
      rw [hl, he] at hi
      exact absurd (hi.2.1.symm.trans (hx x he)) nofun

theorem of_addressFor {k : Line} (h : s.SoundOn l) (hk : ∀ i, k.addressFor i = l.addressFor i) : s.SoundOn k :=
  { h with table := ⟨h.table.1, fun i => hk i ▸ h.table.2 i⟩ }

/-- Entry i is written, to the line state `k` that differs from `l` for entry i alone. -/
theorem setEntry {k : Line} (h : s.SoundOn l) {i : Nat} {x : Exchange} (hi : i < 8)
    (hx : EntryFits (k.addressFor i) (some x)) (hk : ∀ j, j ≠ i → k.addressFor j = l.addressFor j) :
    (s.setEntry i x).SoundOn k where
  u := h.u
  d := h.d
  table := by
    refine ⟨by simpa [State.setEntry] using h.table.1, fun j => ?_⟩
    rw [s.entryAt_setEntry i j x (h.table.1.symm ▸ hi)]
    split
    · next hj => exact hj ▸ hx
    · next hj => exact hk j hj ▸ h.table.2 j
  stations := h.stations
  handler := h.handler
  memory := h.memory
  factors := h.factors

/-- Entry i becomes FREE, in the line state `k` that differs from `l` for entry i alone. -/
theorem freeEntry {k : Line} (h : s.SoundOn l) {i : Nat} (hi : k.addressFor i = none)
    (hk : ∀ j, j ≠ i → k.addressFor j = l.addressFor j) : (s.freeEntry i).SoundOn k where
  u := h.u
  d := h.d
  table := by
    refine ⟨by simpa [State.freeEntry] using h.table.1, fun j => ?_⟩
    rw [s.entryAt_freeEntry i j]
    split
    · next hj => rw [hj, hi]; trivial
    · next hj => exact hk j hj ▸ h.table.2 j
  stations := h.stations
  handler := h.handler
  memory := h.memory
  factors := h.factors

/-- The entry on the line becomes FREE and the line IDLE. -/
theorem freeEntry_lineIdle (h : s.SoundOn l) {i a : Nat} (hl : l.addressFor i = some a) :
    (s.freeEntry i).lineIdle.Sound :=
  (h.freeEntry (k := .idle) rfl fun _ hj => (Line.addressFor_of_ne hl hj).symm).lineIdle

/-- The entry on the line no longer holds it, and the line is IDLE. -/
theorem setEntry_lineIdle (h : s.SoundOn l) {i a : Nat} (hl : l.addressFor i = some a) (hi : i < 8) {y : Exchange}
    (hy : y.Sound) (hh : y.holdsLine = false) : (s.setEntry i y).lineIdle.Sound :=
  (h.setEntry (k := .idle) hi ⟨hy, hh⟩ fun _ hj => (Line.addressFor_of_ne hl hj).symm).lineIdle

/-! ### Admission and sending (R43, R44) -/

theorem admitInto (h : s.SoundOn l) {i : Nat} {f : FrameRecord} (hi : s.freeIndex = some i) (hf : f.WellFormed)
    (hr : f.kind.isRequest = true) (ha : f.addr ≤ 126) : (s.admitInto i f).SoundOn l := by
  obtain ⟨hlt, hfree, -⟩ := s.freeIndex_some i hi
  have hl : l.addressFor i = none := h.addressFor_eq_none fun x hx => nomatch hfree.symm.trans hx
  have hset : ∀ disc cls, (s.setEntry i (newExchange f disc cls)).SoundOn l := fun disc cls =>
    h.setEntry (h.table.1 ▸ hlt) (by rw [hl]; exact ⟨newExchange_sound hf hr ha disc cls, rfl⟩) fun _ _ => rfl
  unfold State.admitInto
  dsimp only
  split
  · exact ((hset _ _).setOrder _).removeSpent _
  · exact (((hset _ _).setOrder _).removeSpent _).countStation _ _

theorem sendAttempt (h : s.SoundOn l) {i a : Nat} {x : Exchange} (hx : s.entryAt i = some x) (ha : x.CanGoTo a)
    (hl : ∀ j, j ≠ i → l.addressFor j = none) : (s.sendAttempt i x a).Sound := by
  have hs := h.exchange_sound hx
  have hset : (s.setEntry i { x with phase := .onLine, attempts := x.attempts + 1 }).SoundOn (.sending i a) :=
    h.setEntry (h.index_lt hx)
      (by rw [Line.addressFor_sending_self]; exact ⟨hs.withPhase .onLine _ _ nofun, rfl, ha⟩)
      fun j hj => by rw [hl j hj]; exact if_neg hj
  exact (hset.handOver .d (hs.requestFrame ha)).setLine _

/-! ### Settlement (R45, R46, R121 to R123) -/

section settlement

variable {i : Nat} {x : Exchange}

theorem settlePosted (h : s.SoundOn l) (hl : ∀ j, j ≠ i → l.addressFor j = none) (a : Nat) (k : Kind) :
    (s.settlePosted i a k).SoundOn .idle := by
  have hfree : (s.freeEntry i).SoundOn .idle := h.freeEntry rfl fun j hj => (hl j hj).symm
  unfold State.settlePosted
  dsimp only
  split
  · exact hfree
  · exact (hfree.countStation _ _).raise _

theorem settleReady (h : s.SoundOn l) (hl : ∀ j, j ≠ i → l.addressFor j = none) (hi : i < 8) (hx : x.Sound)
    {o : HeldOutcome} (ho : o.Sound) : (s.settleReady i x o).SoundOn .idle := by
  have hready : ∀ t, ({ x with phase := .ready o t } : Exchange).Sound := fun t =>
    hx.withPhase (.ready o t) _ _ (by rintro _ _ ⟨⟩; exact ho)
  have hset : ∀ t, (s.setEntry i { x with phase := .ready o t }).SoundOn .idle := fun t =>
    h.setEntry hi ⟨hready t, rfl⟩ fun j hj => (hl j hj).symm
  exact (hset _).setOrder _

theorem settle (h : s.SoundOn l) (hl : ∀ j, j ≠ i → l.addressFor j = none) (hi : i < 8) (hx : x.Sound)
    {o : HeldOutcome} (ho : o.Sound) : (s.settle i x o).SoundOn .idle := by
  have hlearn : (if x.discovery && o.kind.teaches then s.learnDownstream x.key.addr else s).SoundOn l := by
    split
    · exact h.learnDownstream _
    · exact h
  unfold State.settle
  dsimp only
  split
  · exact hlearn.settlePosted hl _ _
  · exact hlearn.settleReady hl hi hx ho

theorem settleSilent (h : s.SoundOn l) (hl : ∀ j, j ≠ i → l.addressFor j = none) (hi : i < 8) (hx : x.Sound) :
    (s.settleSilent i x).SoundOn .idle :=
  (h.countStation _ _).settle hl hi hx silentOutcome_sound

theorem farTurnedAway (h : s.SoundOn l) (hl : ∀ j, j ≠ i → l.addressFor j = none) (hi : i < 8) (hx : x.Sound) :
    (s.farTurnedAway i x).SoundOn .idle := by
  unfold State.farTurnedAway
  split
  · exact h.setEntry hi ⟨hx.withPhase (.farWait _) _ _ nofun, rfl⟩ fun j hj => (hl j hj).symm
  · exact h.settleSilent hl hi hx

theorem actOnAnswer (h : s.SoundOn l) (hl : ∀ j, j ≠ i → l.addressFor j = none) (hi : i < 8) (hx : x.Sound)
    {f : FrameRecord} (hf : f.WellFormed) (hr : f.kind.isRequest = false) : (s.actOnAnswer i x f).SoundOn .idle := by
  unfold State.actOnAnswer
  split
  · exact h.farTurnedAway hl hi hx
  · exact h.settle hl hi hx (outcomeOf_sound hf hr)

theorem takeMatching (h : s.SoundOn l) {a : Nat} (hl : l.addressFor i = some a) (hx : s.entryAt i = some x)
    {f : FrameRecord} (hf : f.WellFormed) (hr : f.kind.isRequest = false) : (s.takeMatching i x f).Sound := by
  have hother : ∀ j, j ≠ i → l.addressFor j = none := fun j => Line.addressFor_of_ne hl
  have key : ∀ y : Exchange, y.Sound → ∀ t : State, t.SoundOn l →
      (if y.phase = .withdrawn then t.freeEntry i else t.actOnAnswer i y f).SoundOn .idle := fun y hy t ht => by
    split
    · exact ht.freeEntry rfl fun j hj => (hother j hj).symm
    · exact ht.actOnAnswer hother (h.index_lt hx) hy hf hr
  refine State.SoundOn.lineIdle (key _ ?_ _ (h.withdrawFrame.setLevel _ _))
  obtain ⟨hreq, ha, h0, hpost, hlen, hready⟩ := h.exchange_sound hx
  split
  · exact ⟨hreq, ha, h0, hpost, hlen, hready⟩
  · exact ⟨hreq, ha, h0, hpost, hlen, hready⟩

/-! ### Reply timeouts (R126 to R129) -/

theorem afterTimeout (h : s.SoundOn l) {a : Nat} (hl : l.addressFor i = some a) (hx : s.entryAt i = some x) :
    (s.afterTimeout i x a).Sound := by
  have hother : ∀ j, j ≠ i → l.addressFor j = none := fun j => Line.addressFor_of_ne hl
  have hs := h.exchange_sound hx
  unfold State.afterTimeout
  split
  · split
    · exact h.sendAttempt hx (h.canGoTo hl hx) hother
    · exact h.setEntry_lineIdle hl (h.index_lt hx) (hs.withPhase .queued _ _ nofun) rfl
  · exact (h.settleSilent hother (h.index_lt hx) hs).lineIdle

theorem timeoutEffect (h : s.SoundOn l) {a : Nat} (hl : l.addressFor i = some a) (hx : s.entryAt i = some x) :
    (s.timeoutEffect i x a).Sound := by
  have ht := (h.countStation .timeouts x.key.addr).advanceLevel x.key.addr
  unfold State.timeoutEffect
  dsimp only
  split
  · exact ht.freeEntry_lineIdle hl
  · exact ht.afterTimeout hl (by simpa [State.entryAt] using hx)

end settlement

end State.SoundOn

end Sys2Proof.Machine
end

section
/-! Every step stores and sends well-formed frames only (O59): the Dispatcher, the withdrawals, the Request Handler and the
timers keep the condition. -/

namespace Sys2Proof.Machine

/-! ### The Dispatcher and the timers (chapters 3, 6 and 7) -/

namespace State.Sound

variable {s : State}

theorem waitedTimeout (h : s.Sound) : s.waitedTimeout.Sound := by
  rcases s.waitedTimeout_cases with he | ⟨i, a, x, hl, hx, he⟩ <;> rw [he]
  · exact h
  · exact h.timeoutEffect (by simp [hl]) hx

theorem replyExpiry (h : s.Sound) : s.replyExpiry.Sound := by
  unfold State.replyExpiry
  split
  case h_1 i a t hl =>
    have hon : s.line.addressFor i = some a := by simp [hl]
    split
    · exact (h.of_addressFor (k := .awaiting i a 0) fun j => by rw [hl]; rfl).setLine _
    · split
      · next x hx => exact h.timeoutEffect hon hx
      · next hx => exact absurd hx (h.entryAt_ne_none hon)
  case h_2 => exact h
  case h_3 => exact h

/-- The Dispatcher may count a frame as UNEXPECTED whatever the line's state (R119). -/
theorem countUnexpected (h : s.Sound) : (s.countPort .d .unexpected).Sound :=
  (h.countPort .d .unexpected).sound (by simp)

theorem dispatchForeign (h : s.Sound) : s.dispatchForeign.Sound := h.countUnexpected.waitedTimeout

theorem dispatchAnswer (h : s.Sound) {f : FrameRecord} (hf : f.WellFormed) (hr : f.kind.isRequest = false) :
    (s.dispatchAnswer f).Sound := by
  have tested : ∀ i a, s.line.addressFor i = some a →
      (match s.entryAt i with
        | some x =>
          if answerMatches x a f then s.takeMatching i x f else (s.countPort .d .unexpected).waitedTimeout
        | none => s.countPort .d .unexpected).Sound := fun i a hl => by
    split
    · next x hx =>
      split
      · exact h.takeMatching hl hx hf hr
      · exact h.countUnexpected.waitedTimeout
    · exact h.countUnexpected
  unfold State.dispatchAnswer
  split
  · exact h.countUnexpected
  · next i a hl => exact tested i a (by simp [hl])
  · next i a t hl => exact tested i a (by simp [hl])

theorem emptySlot (h : s.Sound) (p : Port) : (s.updatePort p fun q => { q with slot := none }).Sound :=
  (h.updatePort p (g := fun q => { q with slot := none }) fun _ hq f hf => hq f (hf.imp_left nofun)).sound (by simp)

theorem dTakeNow (h : s.Sound) : s.dTakeNow.Sound := by
  unfold State.dTakeNow
  split
  · split
    · next f hf =>
      split
      · exact (h.emptySlot .d).dispatchForeign
      · next hr => exact (h.emptySlot .d).dispatchAnswer (h.d f (.inl hf)) (by simpa using hr)
    · exact h
  · exact h

/-- The address a selected entry's frame goes to fits it: the one in its station's record, or 0 for a NOTE (R16). -/
theorem canGoTo_downstreamAddr (h : s.Sound) {i : Nat} {x : Exchange} (hx : s.entryAt i = some x) :
    x.CanGoTo (s.downstreamAddr x) := by
  obtain ⟨-, hle, h0, -⟩ := h.exchange_sound hx
  unfold State.downstreamAddr
  split
  · next hk => exact ⟨by omega, iff_of_true rfl hk⟩
  · next hk =>
    have hst : isStation x.key.addr = true := (isStation_iff _).2 ⟨Nat.pos_of_ne_zero (mt h0.1 hk), hle⟩
    have ha := (isStation_iff _).1 (h.stations.2 _ hst)
    exact ⟨ha.2, iff_of_false (by omega) hk⟩

theorem select (h : s.Sound) : s.select.Sound := by
  unfold State.select
  split
  · next hm =>
    have hidle : s.line = .idle := by
      simp only [State.maySelect, Bool.and_eq_true, beq_iff_eq] at hm
      exact hm.2
    split
    · split
      · next x hx => exact h.sendAttempt hx (h.canGoTo_downstreamAddr hx) fun j _ => by rw [hidle]; rfl
      · exact h
    · exact h
  · exact h

theorem reAskExpiry (h : s.Sound) (i : Nat) : (s.reAskExpiry i).Sound := by
  unfold State.reAskExpiry
  split
  · next x hx =>
    split
    · next t hp =>
      have hl : s.line.addressFor i = none :=
        h.addressFor_eq_none fun y hy => by cases hx.symm.trans hy; simp [Exchange.holdsLine, hp]
      refine h.setEntry (h.index_lt hx) ?_ fun _ _ => rfl
      have hs := (h.exchange_sound hx).withPhase .queued x.attempts x.reAsks nofun
      exact (show EntryFits (s.line.addressFor i) (some { x with phase := .queued }) by rw [hl]; exact ⟨hs, rfl⟩)
    all_goals exact h
  · exact h

theorem collectionExpiry (h : s.Sound) (i : Nat) : (s.collectionExpiry i).Sound := by
  unfold State.collectionExpiry
  split
  · next x hx =>
    split
    · next o t hp =>
      have hl : s.line.addressFor i = none :=
        h.addressFor_eq_none fun y hy => by cases hx.symm.trans hy; simp [Exchange.holdsLine, hp]
      have hfree : (s.freeEntry i).SoundOn s.line := h.freeEntry hl fun _ _ => rfl
      have hcount := (hfree.countStation .discards x.key.addr).raise .discarded
      unfold State.discardOutcome
      dsimp only
      split
      · exact (hcount.addSpent _).sound (by simp)
      · exact hcount.sound (by simp)
    all_goals exact h
  · exact h

theorem stepStation (h : s.Sound) (a : Nat) : (s.stepStation a).Sound := by
  unfold State.stepStation
  split
  · exact (h.advanceLevel a).sound (by simp)
  · exact h

theorem ladderExpiry (h : s.Sound) : s.ladderExpiry.Sound := by
  have hall : ∀ ks : List Nat, (ks.foldl (fun t k => t.stepStation (k + 1)) s).Sound := fun ks => by
    induction ks generalizing s with
    | nil => exact h
    | cons k ks ih => exact ih (h.stepStation (k + 1))
  have ht := hall (List.range Config.stationCount)
  unfold State.ladderExpiry
  generalize (List.range Config.stationCount).foldl _ s = t at ht ⊢
  exact State.SoundOn.of_fields ht ht.u ht.d rfl rfl ht.handler rfl rfl

/-! ### Withdrawal, flush, clear, pause (R57, R61, R125, R133) -/

theorem settle (h : s.Sound) : s.settleDSettings.Sound := h.settleDSettings.sound (by simp)

theorem dropWaitingWithdrawn (h : s.Sound) : s.dropWaitingWithdrawn.Sound := by
  rcases s.dropWaitingWithdrawn_cases with he | ⟨i, a, x, hl, -, -, -, he⟩ <;> rw [he]
  · exact h
  · exact h.withdrawFrame.freeEntry_lineIdle (show s.line.addressFor i = some a by simp [hl])

end State.Sound

/-- A withdrawal leaves an entry that holds the line there, and frees any other (R57, R61). -/
theorem EntryFits.withdrawnOrFree {d : Option Nat} {x : Exchange} (h : EntryFits d (some x)) :
    EntryFits d x.withdrawnOrFree := by
  unfold Exchange.withdrawnOrFree
  split
  · next hh => exact h.change (h.sound.withPhase .withdrawn _ _ nofun) hh.symm rfl
  · next hh =>
    cases d with
    | none => trivial
    | some a => exact hh h.2.1

/-- The time that passes leaves an exchange what it is (R48, R51). -/
theorem EntryFits.tick {d : Option Nat} {x : Exchange} (h : EntryFits d (some x)) : EntryFits d (some x.tick) := by
  have hs := h.sound
  refine h.change (hs.withPhase _ _ _ fun o t hp => ?_) ?_ rfl
  · obtain ⟨-, -, -, -, -, hready⟩ := hs
    cases hx : x.phase with
    | ready o' t' => rw [hx] at hp; cases hp; exact hready o t' hx
    | _ => rw [hx] at hp; cases hp
  · cases hx : x.phase <;> simp [Exchange.holdsLine, Exchange.tick, hx] <;> rfl

namespace State.Sound

variable {s : State}

theorem flush (h : s.Sound) (a : Nat) : (s.flush a).Sound := by
  refine settle (dropWaitingWithdrawn (h.of_map rfl rfl (fun d x hx => ?_) h.u h.d rfl h.handler rfl rfl))
  dsimp only
  split
  · exact hx.withdrawnOrFree
  · exact hx

theorem clearExchanges (h : s.Sound) : s.clearExchanges.Sound :=
  settle (dropWaitingWithdrawn
    (h.of_map rfl rfl (fun _ _ hx => hx.withdrawnOrFree) h.u h.d rfl h.handler rfl rfl))

theorem pauseWithdraw (h : s.Sound) : s.pauseWithdraw.Sound := by
  unfold State.pauseWithdraw
  split
  case h_1 i a hl =>
    split
    · next x hx =>
      split
      · have hs := (h.exchange_sound hx).withPhase .queued (x.attempts - 1) x.reAsks nofun
        have hon : s.line.addressFor i = some a := by simp [hl]
        exact h.withdrawFrame.setEntry_lineIdle hon (h.index_lt hx) hs rfl
      · exact h
    · exact h
  case h_2 => exact h
  case h_3 => exact h

theorem learnLocal (h : s.Sound) (a : Nat) : (s.learnLocal a).Sound := by
  unfold State.learnLocal
  split
  · have hside : (s.updateStation a fun r => { r with side := .localSide }).Sound :=
      (h.updateStation a (h.stations.2 a)).sound (by simp)
    exact (hside.flush a).raise _
  · exact h

end State.Sound

@[simp] theorem State.admitInto_line (i : Nat) (f : FrameRecord) (s : State) : (s.admitInto i f).line = s.line := by
  unfold State.admitInto
  dsimp only
  split <;> simp

namespace State.Sound

variable {s : State}

/-! ### The Request Handler (chapter 5) -/

section request

variable {f : FrameRecord}

theorem sendAnswer (h : s.Sound) {g : FrameRecord} (hg : g.WellFormed) (m : AnswerMark) : (s.sendAnswer m g).Sound :=
  (h.handOver .u hg).setHandler nofun

theorem answer (h : s.Sound) (hf : f.WellFormed) (h0 : f.addr ≠ 0) {k : Kind} (hk : k.isRequest = false)
    (hlen : k.lenAllowed 0 = true) : (s.answer f k).Sound :=
  h.sendAnswer (hf.answerFrame (payload := []) h0 hk _ hlen) _

theorem deliver (h : s.Sound) (hf : f.WellFormed) (h0 : f.addr ≠ 0) {i : Nat} {x : Exchange} {o : HeldOutcome}
    {t : Nat} (hx : s.entryAt i = some x) (hp : x.phase = .ready o t) (a : Nat) : (s.deliver f i a o).Sound := by
  have hl : s.line.addressFor i = none :=
    h.addressFor_eq_none fun y hy => by cases hx.symm.trans hy; simp [Exchange.holdsLine, hp]
  have hfree : (s.freeEntry i).SoundOn s.line := h.freeEntry hl fun _ _ => rfl
  have hcount : ((s.freeEntry i).countStation .delivered a).Sound := (hfree.countStation _ _).sound (by simp)
  obtain ⟨-, -, -, -, -, hready⟩ := h.exchange_sound hx
  obtain ⟨hk, hlen⟩ := hready o t hp
  exact hcount.sendAnswer (hf.answerFrame h0 hk _ hlen) _

theorem answerRepeat (h : s.Sound) (hf : f.WellFormed) (h0 : f.addr ≠ 0) {i : Nat} {x : Exchange}
    (hx : s.entryAt i = some x) : (s.answerRepeat f i x).Sound := by
  have hwait : (s.answer f (if x.posted then .done else .wait)).Sound := by
    split
    · exact h.answer hf h0 rfl rfl
    · exact h.answer hf h0 rfl rfl
  unfold State.answerRepeat
  split
  · next o t hp => exact h.deliver hf h0 hx hp _
  all_goals exact hwait

theorem refuseBusy (h : s.Sound) (hf : f.WellFormed) (h0 : f.addr ≠ 0) : (s.refuseBusy f).Sound := by
  have hcount : ((s.countStation .busyRefusals f.addr).raise .capacity).Sound :=
    ((h.countStation _ _).raise _).sound (by simp)
  exact hcount.answer hf h0 rfl rfl

theorem judgeNew (h : s.Sound) (hf : f.WellFormed) (hr : f.kind.isRequest = true) (ha : isStation f.addr = true) :
    (s.judgeNew f).Sound := by
  have h0 := addr_ne_zero_of_isStation ha
  unfold State.judgeNew
  split
  · exact h.answer hf h0 rfl rfl
  split
  · exact answer (s := s.removeSpent f.key) (h.removeSpent _) hf h0 rfl rfl
  split
  · exact h.refuseBusy hf h0
  split
  · exact h.refuseBusy hf h0
  · next i hi =>
    have hadm : (s.admitInto i f).Sound :=
      (h.admitInto hi hf hr ((isStation_iff _).1 ha).2).sound (by simp)
    unfold State.admitAndAnswer
    split
    · exact hadm.answer hf h0 rfl rfl
    · exact hadm.answer hf h0 rfl rfl

theorem matchOrAdmit (h : s.Sound) (hf : f.WellFormed) (hr : f.kind.isRequest = true) (ha : isStation f.addr = true) :
    (s.matchOrAdmit f).Sound := by
  unfold State.matchOrAdmit
  split
  · split
    · next x hx => exact h.answerRepeat hf (addr_ne_zero_of_isStation ha) hx
    · exact h.judgeNew hf hr ha
  · exact h.judgeNew hf hr ha

theorem silent (h : s.Sound) : s.silence.Sound := h.silence

theorem openWindow (h : s.Sound) (hf : f.WellFormed) (hr : f.kind.isRequest = true) (ha : isStation f.addr = true) :
    (s.openWindow f).Sound :=
  h.setHandler fun _ _ he => by cases he; exact ⟨hf, hr, ha⟩

theorem decideUnknown (h : s.Sound) (hf : f.WellFormed) (hr : f.kind.isRequest = true) (ha : isStation f.addr = true) :
    (s.decideUnknown f).Sound := by
  unfold State.decideUnknown
  split
  · exact h.matchOrAdmit hf hr ha
  split
  · exact h.silence
  split
  · exact (h.raise _).silence
  · exact h.openWindow hf hr ha

theorem decideStation (h : s.Sound) (hf : f.WellFormed) (hr : f.kind.isRequest = true) : (s.decideStation f).Sound := by
  unfold State.decideStation
  split
  · next ha =>
    split
    · exact h.decideUnknown hf hr ha
    · exact h.silence
    · exact h.matchOrAdmit hf hr ha
    · exact h.answer hf (addr_ne_zero_of_isStation ha) rfl rfl
    · exact h.silence
  · exact h.silence

theorem decideNote (h : s.Sound) (hf : f.WellFormed) (hk : f.kind = .note) : (s.decideNote f).Sound := by
  have h0 : f.addr = 0 := by
    obtain ⟨-, -, h0, -⟩ := hf
    exact h0.2 hk
  unfold State.decideNote
  split
  · split
    · exact h.silence
    · split
      · next i hi =>
        have hadm := h.admitInto hi hf (by rw [hk]; rfl) (by omega)
        exact (hadm.sound (by simp)).silent
      · exact (h.raise _).silence
  · exact h.silence

theorem clashCheck (h : s.Sound) : (s.clashCheck f).Sound := by
  unfold State.clashCheck
  split
  · exact h.countPort .u .unexpected
  · exact h

theorem decideAnswer (h : s.Sound) (before : Handler) : (s.decideAnswer before f).Sound := by
  unfold State.decideAnswer
  split
  · split
    · exact (h.learnLocal _).silence
    · exact h.silence
  all_goals exact h.clashCheck.silence

end request

end State.Sound

end Sys2Proof.Machine
end

section
/-! Every step stores and sends well-formed frames only (O59): the Management Unit and the ports keep the condition, and with them
every command and every step. -/

namespace Sys2Proof.Machine

/-! ### What the objects read (R162, R164 to R176) -/

theorem State.length_pendingCodes_le (s : State) : s.pendingCodes.length ≤ 11 := by
  have := List.length_filter_le (fun k => (s.factorAt (k + 1)).pending) (List.range 11)
  simpa [State.pendingCodes] using this

theorem State.length_statusPayload_le (s : State) : s.statusPayload.length ≤ 64 := by
  have := s.length_pendingCodes_le
  simp only [State.statusPayload, twoBytes, List.length_append, List.length_map, List.length_range, List.length_cons,
    List.length_nil]
  omega

theorem State.length_exchangePayload (s : State) (i : Nat) : (s.exchangePayload i).length = 15 := by
  unfold State.exchangePayload
  split <;> rfl

/-- What an object reads fits a frame (R1). -/
theorem State.length_readObject_le (s : State) (hf : s.factors.length = 11) (o : Object) :
    (s.readObject o).length ≤ 64 := by
  cases o with
  | status => exact s.length_statusPayload_le
  | factorLevels => simp [State.readObject, State.levelsPayload, hf]
  | pause =>
    show s.pausePayload.length ≤ 64
    unfold State.pausePayload
    split <;> exact Nat.le_of_ble_eq_true rfl
  | exchange i => simp [State.readObject, s.length_exchangePayload i]
  | _ => exact Nat.le_of_ble_eq_true rfl

/-! ### The Management Unit (chapter 9) -/

namespace State.Sound

variable {s : State} {f : FrameRecord}

theorem answerManagement (h : s.Sound) (hf : f.WellFormed) (h0 : f.addr ≠ 0) {k : Kind} (hk : k.isRequest = false)
    {payload : List Byte} (hlen : k.lenAllowed payload.length = true) (m : AnswerMark) :
    (s.answerManagement f k payload m).Sound :=
  h.sendAnswer (hf.answerFrame h0 hk _ hlen) m

theorem refuse (h : s.Sound) (hf : f.WellFormed) (h0 : f.addr ≠ 0) (r : Reason) (k : Nat) : (s.refuse f r k).Sound :=
  h.answerManagement hf h0 rfl rfl _

theorem forget (h : s.Sound) : s.forgetMemory.Sound := h.forgetMemory

/-- A SET keeps the condition if its effect does once its fields are allowed (R161). -/
theorem judgeSet (h : s.Sound) (hf : f.WellFormed) (h0 : f.addr ≠ 0) {len : Nat} {fields : List Byte → List Bool}
    {m : AnswerMark} {effect : List Byte → State → State}
    (he : firstBad (fields f.payload) = none → (effect f.payload s.forgetMemory).Sound) :
    (s.judgeSet len fields m effect f).Sound := by
  unfold State.judgeSet
  dsimp only
  split
  · exact h.forget.refuse hf h0 _ _
  · split
    · exact h.forget.refuse hf h0 _ _
    · next hb => exact (he hb).answerManagement hf h0 rfl rfl _

theorem acknowledge (h : s.Sound) (codes : List Byte) : (s.acknowledge codes).Sound :=
  h.of_fields h.u h.d rfl rfl h.handler rfl (by simp [State.acknowledge])

theorem writeLevels (h : s.Sound) (levels : List Byte) : (s.writeLevels levels).Sound :=
  h.of_fields h.u h.d rfl rfl h.handler rfl (by simp [State.writeLevels])

theorem writePending (h : s.Sound) (p : Port) (payload : List Byte) : (s.writePending p payload).Sound := by
  cases p <;> exact h.of_fields h.u h.d rfl rfl h.handler rfl rfl

theorem writeTiming (h : s.Sound) (payload : List Byte) : (s.writeTiming payload).Sound :=
  h.of_fields h.u h.d rfl rfl h.handler rfl rfl

theorem writePolicy (h : s.Sound) (payload : List Byte) : (s.writePolicy payload).Sound :=
  h.of_fields h.u h.d rfl rfl h.handler rfl rfl

theorem pauseFor (h : s.Sound) (d : Nat) : (s.pauseFor d).Sound := by
  have hmode : ∀ m, ({ s with mode := m } : State).Sound := fun _ =>
    h.of_fields h.u h.d rfl rfl h.handler rfl rfl
  unfold State.pauseFor
  split
  · exact hmode _
  · exact (hmode _).pauseWithdraw

/-- A STATION write stores a downstream address that is a station's address (R71, R75). -/
theorem storeStation (h : s.Sound) {a : Nat} {side : Side} {payload : List Byte}
    (hal : isStation a = true → isStation (writtenAlias a side (byteAt payload 1)) = true) :
    (s.storeStation a side payload).Sound := by
  have hset : (s.updateStation a fun r =>
      { r with
        side := side, aliasAddr := writtenAlias a side (byteAt payload 1), cls := byteAt payload 2
        permit := byteAt payload 3 == 1 }).SoundOn s.line := h.updateStation a hal
  unfold State.storeStation
  dsimp only
  split
  · exact (hset.setLevel a 1).sound (by simp)
  · exact hset.sound (by simp)

theorem writeStation (h : s.Sound) {a : Nat} {side : Side} {payload : List Byte}
    (hal : isStation a = true → isStation (writtenAlias a side (byteAt payload 1)) = true) :
    (s.writeStation a side payload).Sound := by
  unfold State.writeStation
  split
  · exact (h.storeStation hal).flush a
  · exact h.storeStation hal

end State.Sound

/-- The downstream address an allowed STATION write stores is a station's address (R71, R75). -/
theorem isStation_writtenAlias {s : State} {a : Nat} {payload : List Byte}
    (hb : firstBad (s.stationFields a payload) = none) (ha : isStation a = true) :
    isStation (writtenAlias a ((Side.ofWriteCode (byteAt payload 0)).getD .unknown) (byteAt payload 1)) = true := by
  have hall : ∀ b ∈ s.stationFields a payload, b = true := by
    simpa [firstBad, List.findIdx?_eq_none_iff] using hb
  simp only [State.stationFields, List.mem_cons, forall_eq_or_imp] at hall
  obtain ⟨-, hal, -⟩ := hall
  unfold writtenAlias
  cases hside : Side.ofWriteCode (byteAt payload 0) with
  | none => simpa using ha
  | some side => cases side <;> simp_all

namespace State.Sound

variable {s : State} {f : FrameRecord}

theorem readAndClear (h : s.Sound) (hf : f.WellFormed) (h0 : f.addr ≠ 0) {clear : State → State} {payload : List Byte}
    (hlen : payload.length ≤ 64) (hc : (clear s.forgetMemory).Sound) : (s.readAndClear clear payload f).Sound := by
  have hdata : ∀ p : List Byte, p.length ≤ 64 → Kind.data.lenAllowed p.length = true := fun p hp => decide_eq_true hp
  unfold State.readAndClear
  split
  · next stored hs =>
    refine h.answerManagement hf h0 rfl (hdata stored ?_) _
    unfold State.storedFor at hs
    split at hs
    · next m hm =>
      split at hs
      · cases hs; exact h.memory m hm
      · cases hs
    · cases hs
  · refine answerManagement ?_ hf h0 rfl (hdata payload hlen) _
    exact ⟨hc.u, hc.d, hc.table, hc.stations, hc.handler, by rintro _ ⟨⟩; exact hlen, hc.factors⟩

theorem clearStationCounters (h : s.Sound) (a : Nat) : (s.clearStationCounters a).Sound :=
  (h.updateStation a (h.stations.2 a)).sound (by simp)

theorem clearPortCounters (h : s.Sound) : s.clearPortCounters.Sound :=
  h.of_fields h.u h.d rfl rfl h.handler rfl rfl

theorem decideStationWrite (h : s.Sound) (hf : f.WellFormed) (h0 : f.addr ≠ 0) : (s.decideStationWrite f).Sound := by
  unfold State.decideStationWrite
  dsimp only
  split
  · exact h.forget.refuse hf h0 _ _
  · exact h.judgeSet hf h0 fun hb => h.forget.writeStation fun ha => isStation_writtenAlias hb ha

theorem decideManagementRequest (h : s.Sound) (hf : f.WellFormed) (h0 : f.addr ≠ 0) :
    (s.decideManagementRequest f).Sound := by
  unfold State.decideManagementRequest
  dsimp only
  split
  · exact h.forget.refuse hf h0 _ _
  · split
    · have hlen := s.forgetMemory.length_readObject_le h.forget.factors (.ofNumber f.object.toNat)
      exact h.forget.answerManagement hf h0 (k := .data) rfl (decide_eq_true hlen) _
    · exact h.forget.refuse hf h0 _ _

end State.Sound

/-! ### Taking a frame (R26, R92 to R94) -/

theorem managementTaking_ne_note (k : Kind) (o : Object) : managementTaking k o ≠ .note := by
  unfold managementTaking
  split <;> nofun

theorem kind_of_takingOf_note {m : Nat} {f : FrameRecord} (h : takingOf m f = .note) : f.kind = .note := by
  unfold takingOf at h
  split at h
  · cases h
  split at h
  · assumption
  split at h
  · cases h
  · exact absurd h (managementTaking_ne_note _ _)

/-- Any way of taking a frame but those of an answer and a NOTE takes an ASK or a SET. -/
theorem request_of_takingOf {m : Nat} {f : FrameRecord} (ha : takingOf m f ≠ .uAnswerFrame) (hn : takingOf m f ≠ .note) :
    f.kind.isRequest = true ∧ f.kind ≠ .note := by
  constructor
  · by_contra hr
    exact ha (by simp [takingOf, hr])
  · intro hk
    exact hn (by simp [takingOf, hk, Kind.isRequest])

theorem FrameRecord.WellFormed.addr_ne_zero {f : FrameRecord} (hf : f.WellFormed) (hk : f.kind ≠ .note) : f.addr ≠ 0 := by
  obtain ⟨-, -, h0, -⟩ := hf
  exact mt h0.1 hk

namespace State.Sound

variable {s : State} {f : FrameRecord}

/-- The decision that goes with a frame's way of being taken keeps the condition. -/
theorem decide (h : s.Sound) (hf : f.WellFormed) {m : Nat} {t : Taking} (ht : takingOf m f = t) (before : Handler) :
    (s.decide t before f).Sound := by
  have hreq : t ≠ .uAnswerFrame → t ≠ .note → f.kind.isRequest = true ∧ f.kind ≠ .note :=
    ht ▸ request_of_takingOf
  have h0 : t ≠ .uAnswerFrame → t ≠ .note → f.addr ≠ 0 := fun ha hn => hf.addr_ne_zero (hreq ha hn).2
  cases t with
  | stationRequest => exact h.decideStation hf (hreq nofun nofun).1
  | note => exact h.decideNote hf (kind_of_takingOf_note ht)
  | uAnswerFrame => exact h.decideAnswer before
  | factorAck => exact h.judgeSet hf (h0 nofun nofun) fun _ => h.forget.acknowledge _
  | factorLevels => exact h.judgeSet hf (h0 nofun nofun) fun _ => h.forget.writeLevels _
  | uPort => exact h.judgeSet hf (h0 nofun nofun) fun _ => h.forget.writePending .u _
  | dPort => exact h.judgeSet hf (h0 nofun nofun) fun _ => h.forget.writePending .d _
  | timing => exact h.judgeSet hf (h0 nofun nofun) fun _ => h.forget.writeTiming _
  | policy => exact h.judgeSet hf (h0 nofun nofun) fun _ => h.forget.writePolicy _
  | pause => exact h.judgeSet hf (h0 nofun nofun) fun _ => h.forget.pauseFor _
  | flush => exact h.judgeSet hf (h0 nofun nofun) fun _ => h.forget.flush _
  | clear => exact h.judgeSet hf (h0 nofun nofun) fun _ => h.forget.clearExchanges
  | restart => exact h.judgeSet hf (h0 nofun nofun) fun _ => h.forget
  | station => exact h.decideStationWrite hf (h0 nofun nofun)
  | countersReadClear =>
    exact h.readAndClear hf (h0 nofun nofun) (Nat.le_of_ble_eq_true rfl) (h.forget.clearStationCounters _)
  | portCountersReadClear =>
    exact h.readAndClear hf (h0 nofun nofun) (Nat.le_of_ble_eq_true rfl) h.forget.clearPortCounters
  | managementRequest => exact h.decideManagementRequest hf (h0 nofun nofun)

theorem takeable_wellFormed (h : s.Sound) (ht : s.takeable = some f) : f.WellFormed := by
  obtain ⟨-, -, hs⟩ := (s.canTake_iff f).2 ht
  exact h.u f (.inl hs)

theorem beginTaking (h : s.Sound) (f : FrameRecord) : (s.beginTaking f).Sound :=
  State.SoundOn.setHandler (h.emptySlot .u) nofun

theorem uTakeNow (h : s.Sound) : s.uTakeNow.Sound := by
  unfold State.uTakeNow
  split
  · next f hf => exact (h.beginTaking f).decide (h.takeable_wellFormed hf) rfl s.handler
  · exact h

theorem takeAs (h : s.Sound) (t : Taking) : (s.takeAs t (State.decide t s.handler)).Sound := by
  unfold State.takeAs
  split
  · next f hf =>
    split
    · next ht => exact (h.beginTaking f).decide (h.takeable_wellFormed hf) ht s.handler
    · exact h
  · exact h

theorem windowExpiry (h : s.Sound) : s.windowExpiry.Sound := by
  unfold State.windowExpiry
  split
  · next f t hh =>
    obtain ⟨hf, hr, ha⟩ := h.handler f t hh
    split
    · exact h.setHandler fun _ _ he => by cases he; exact ⟨hf, hr, ha⟩
    · exact matchOrAdmit (h.setHandler nofun) hf hr ha
  all_goals exact h

/-! ### The ports and reset (chapter 2) -/

theorem takeStored (h : s.Sound) (p : Port) : (s.takeStored p).Sound := by
  cases p
  · exact h.uTakeNow
  · exact h.dTakeNow

theorem reportLost (h : s.Sound) (p : Port) : (s.reportLost p).Sound := by
  cases p with
  | u =>
    unfold State.reportLost
    dsimp only
    split
    · exact h.silence
    all_goals exact h
  | d => exact h.waitedTimeout

/-- A change at a port that lets no frame into its slot or transmitter. -/
theorem changePort (h : s.Sound) (p : Port) {g : PortState → PortState}
    (hg : ∀ q, (g q).slot = q.slot ∧ ∀ f, (g q).tx.frame = some f → q.tx.frame = some f) : (s.updatePort p g).Sound :=
  (h.updatePort p fun q hq f hf => hq f (hf.imp ((hg q).1 ▸ id) ((hg q).2 f))).sound (by simp)

theorem count (h : s.Sound) (p : Port) (c : PortCounter) : (s.countPort p c).Sound :=
  (h.countPort p c).sound (by simp)

theorem loseFrame (h : s.Sound) (p : Port) (c : PortCounter) : (s.loseFrame p c).Sound :=
  ((h.changePort p (g := fun q => { q with assembler := .hunt }) fun _ => ⟨rfl, fun _ => id⟩).count p c).reportLost p

theorem storeFrame (h : s.Sound) (p : Port) (hf : f.WellFormed) : (s.storeFrame p f).Sound := by
  unfold State.storeFrame
  split
  · exact h.loseFrame p _
  · have hs : (s.updatePort p fun q => { q with assembler := .hunt, slot := some f }).Sound :=
      (h.updatePort p (g := fun q => { q with assembler := .hunt, slot := some f })
        fun _ hq g hg => hg.elim (fun he => Option.some.inj he ▸ hf) fun ht => hq g (.inr ht)).sound (by simp)
    exact hs.count p _

theorem endFrame (h : s.Sound) (p : Port) {chars : List Byte} {e : Option CharError}
    (hlen : byteAt chars 6 + 9 ≤ chars.length) : (s.endFrame p chars e).Sound := by
  unfold State.endFrame
  split
  · exact h.loseFrame p _
  · next f hj => exact h.storeFrame p (FrameRecord.wellFormed_of_judgeFrame hj hlen)

theorem huntCharacter (h : s.Sound) (p : Port) (ch : RxChar) : (s.huntCharacter p ch).Sound := by
  unfold State.huntCharacter
  split
  · exact h.changePort p fun _ => ⟨rfl, fun _ => id⟩
  · exact h.count p _

theorem collectCharacter (h : s.Sound) (p : Port) (ch : RxChar) (chars : List Byte) (e : Option CharError) :
    (s.collectCharacter p ch chars e).Sound := by
  unfold State.collectCharacter
  dsimp only
  split
  · exact h.loseFrame p _
  split
  · next hend => exact h.endFrame p hend.2
  · exact h.changePort p fun _ => ⟨rfl, fun _ => id⟩

theorem deliverCharacter (h : s.Sound) (p : Port) (ch : RxChar) : (s.deliverCharacter p ch).Sound := by
  have hs : (s.updatePort p fun q => { q with receiver := .looking, sinceLast := some 0 }).Sound :=
    h.changePort p fun _ => ⟨rfl, fun _ => id⟩
  unfold State.deliverCharacter
  dsimp only
  split
  · exact hs.huntCharacter p ch
  · exact hs.collectCharacter p ch _ _

theorem lineEvent (h : s.Sound) (p : Port) (e : LineEvent) : (s.lineEvent p e).Sound := by
  cases e with
  | startEdge => exact h.changePort p fun _ => ⟨rfl, fun _ => id⟩
  | samples levels =>
    have hlost : (s.updatePort p fun q => { q with receiver := .looking }).Sound :=
      h.changePort p fun _ => ⟨rfl, fun _ => id⟩
    unfold State.lineEvent State.endCharacter
    dsimp only
    split
    · exact hlost
    · split
      · exact hlost
      · exact h.deliverCharacter p _

theorem gapExpiry (h : s.Sound) (p : Port) : (s.gapExpiry p).Sound := by
  unfold State.gapExpiry
  split
  · exact h.loseFrame p _
  · exact h.loseFrame p _
  all_goals exact h

theorem startSending (h : s.Sound) (p : Port) : (s.updatePort p PortState.startSending).Sound := by
  refine h.changePort p fun q => ?_
  unfold PortState.startSending
  split
  · next f hq => exact ⟨rfl, fun g hg => by rw [hq]; exact hg⟩
  all_goals exact ⟨rfl, fun _ => id⟩

theorem endSending (h : s.Sound) (p : Port) : (s.endSending p).Sound :=
  (h.changePort p
    (g := fun q => { q with tx := .idle, receiver := q.receiver.abandon, assembler := .hunt, sinceLast := some 0 })
    fun _ => ⟨rfl, nofun⟩).count p _

theorem requestGone (h : s.Sound) : s.requestGone.Sound := by
  unfold State.requestGone
  split
  case h_1 i a hl =>
    have hon : s.line.addressFor i = some a := by simp [hl]
    split
    · split
      · exact h.freeEntry_lineIdle hon
      · exact (h.of_addressFor (k := .awaiting i a _) fun j => by rw [hl]; rfl).setLine _
    · next hx => exact absurd hx (h.entryAt_ne_none hon)
  case h_2 => exact h
  case h_3 => exact h

end State.Sound

/-- A reset leaves no frame, no exchange and every record with its own address downstream (R37, R63, R87). -/
theorem State.restarted_sound (straps : Straps) (s : State) : (s.restarted straps).Sound where
  u := nofun
  d := nofun
  table := by
    refine ⟨rfl, fun i => ?_⟩
    have hi : (s.restarted straps).entryAt i = none := by
      simp only [State.entryAt, State.restarted, State.afterReset, List.getD_eq_getElem?_getD, List.getElem?_replicate]
      split <;> rfl
    rw [hi]
    trivial
  stations := by
    refine ⟨by simp [State.restarted, State.afterReset], fun a ha => ?_⟩
    have hle := (isStation_iff a).1 ha
    have hown : ((s.restarted straps).stationAt a).aliasAddr = a := by
      simp [State.stationAt, ha, State.restarted, State.afterReset, show a - 1 < 126 by omega,
        show a - 1 + 1 = a by omega, StationRecord.afterReset]
    rwa [hown]
  handler := nofun
  memory := nofun
  factors := rfl

namespace State.Sound

variable {s : State}

theorem fullRestart (straps : Straps) (s : State) : (s.fullRestart straps).Sound :=
  have h := s.restarted_sound straps
  h.of_fields h.u h.d rfl rfl h.handler rfl rfl

theorem answerGone (h : s.Sound) (straps : Straps) : (s.answerGone straps).Sound := by
  have hdue : ({ s with dChangeDue := true } : State).Sound := h.of_fields h.u h.d rfl rfl h.handler rfl rfl
  unfold State.answerGone
  split
  · exact h.silence
  · exact (h.changePort .u (g := PortState.applyPending) fun _ => ⟨rfl, fun _ => id⟩).silent
  · exact hdue.settle.silence
  · exact fullRestart straps s
  all_goals exact h

theorem reportSent (h : s.Sound) (p : Port) (straps : Straps) : (s.reportSent p straps).Sound := by
  cases p
  · exact h.answerGone straps
  · exact h.requestGone

/-! ### Time -/

theorem tick (h : s.Sound) : s.tick.Sound := by
  have hport : ∀ q : PortState, q.FramesWellFormed → q.tick.FramesWellFormed := fun q hq f hf => by
    refine hq f (hf.imp_right fun ht => ?_)
    cases htx : q.tx <;> simp_all [PortState.tick, Transmitter.frame]
  have hhandler : s.handler.tick.HoldsRequest := fun f t he => by
    cases hh : s.handler <;> rw [hh] at he <;> cases he
    exact h.handler _ _ hh
  have ht : s.tick.SoundOn s.line :=
    h.of_map (g := Option.map Exchange.tick) rfl rfl (fun _ _ hx => hx.tick) (hport _ h.u) (hport _ h.d) rfl hhandler
      rfl rfl
  exact ht.of_addressFor fun i => s.line.addressFor_tick i

end State.Sound

/-! ### Commands and steps -/

/-- What a command leaves keeps the condition. -/
def SoundOutcome : Host.Outcome State Fault Refusal → Prop
  | .next t => t.Sound
  | .fault _ => True
  | .refused _ => True

namespace State.Sound

variable {s : State}

theorem ite {c : Prop} [Decidable c] {t u : State} (ht : t.Sound) (hu : u.Sound) : (if c then t else u).Sound := by
  split <;> assumption

theorem exec (h : s.Sound) : ∀ c : Instr, SoundOutcome (exec c s)
  | .resetNLow => h.of_fields (fun f hf => h.u f (hf.imp_right nofun)) (fun f hf => h.d f (hf.imp_right nofun)) rfl rfl
      h.handler rfl rfl
  | .resetEnd straps => s.restarted_sound straps
  | .characterReceived p e => (h.takeStored p).lineEvent p e
  | .gapLimitExpiry p => ite (h.takeStored p) ((h.takeStored p).gapExpiry p)
  | .transmitStart p => ite ((h.takeStored p).startSending p) (h.takeStored p)
  | .frameSent p straps => ite ((h.endSending p).reportSent p straps) h
  | .deafPeriodEnd => ite (h.of_fields h.u h.d rfl rfl h.handler rfl rfl) h
  | .discoveryWindowExpiry => ite (by split; exacts [h.uTakeNow, h.windowExpiry]) h
  | .selection => h.dTakeNow.select
  | .dAnswerFrame => ite h.dTakeNow h
  | .foreignRequest => ite h.dTakeNow h
  | .replyTimeout => ite h.dTakeNow.replyExpiry h
  | .reAskExpiry i => ite (h.reAskExpiry i) h
  | .collectionExpiry i => ite (h.collectionExpiry i) h
  | .pauseTimerExpiry =>
    have hrun : ({ s with mode := .run } : State).Sound := h.of_fields h.u h.d rfl rfl h.handler rfl rfl
    ite (by split; exacts [hrun.raise _, h]) h
  | .ladderStep => ite h.ladderExpiry h
  | .stationRequest => h.takeAs .stationRequest
  | .note => h.takeAs .note
  | .uAnswerFrame => h.takeAs .uAnswerFrame
  | .factorAck => h.takeAs .factorAck
  | .factorLevels => h.takeAs .factorLevels
  | .uPort => h.takeAs .uPort
  | .dPort => h.takeAs .dPort
  | .timing => h.takeAs .timing
  | .policy => h.takeAs .policy
  | .pause => h.takeAs .pause
  | .flush => h.takeAs .flush
  | .clear => h.takeAs .clear
  | .restart => h.takeAs .restart
  | .station => h.takeAs .station
  | .countersReadClear => h.takeAs .countersReadClear
  | .portCountersReadClear => h.takeAs .portCountersReadClear
  | .managementRequest => h.takeAs .managementRequest

theorem step (h : s.Sound) : SoundOutcome (step s) := by
  have hrest : ∀ rest, ({ s with pending := rest } : State).Sound := fun _ =>
    h.of_fields h.u h.d rfl rfl h.handler rfl rfl
  unfold Machine.step
  split
  · exact (hrest _).exec _
  · split
    · exact h.exec _
    · exact ite h.tick h

end State.Sound

/-- Settles O59: the condition is `State.Sound`, which every operation keeps and so every step. -/
theorem everyFrameStoredOrSentIsWellFormed : Obligations.EveryFrameStoredOrSentIsWellFormed := by
  intro s t hs ht
  have hstep := ((s.sound_iff).2 hs).step
  rw [ht] at hstep
  exact t.sound_iff.1 hstep

end Sys2Proof.Machine
end

section
/-! A condition that the operations on the blocks keep is kept by every command and every step: the operations it must be kept by,
the Request Handler, the Management Unit and the ports built from them, and the commands. -/

namespace Sys2Proof.Machine

/-! ### What is kept in range -/

/-- A port's counters and settings lie in their ranges (R32, R34). -/
structure PortState.InRange (q : PortState) : Prop where
  counters : ∀ c, q.counters.get c ≤ Config.counterMax
  live : q.live.InRange
  pendingCopy : q.pendingCopy.InRange

/-- A record's ladder level and counters lie in their ranges (R83, R136). -/
structure StationRecord.InRange (r : StationRecord) : Prop where
  level_pos : 1 ≤ r.level
  level_le : r.level ≤ 8
  counters : ∀ c, r.counters.get c ≤ Config.counterMax

/-- A change of counters that keeps them at 65535 or below, as a count and a clear do (R33, R83). -/
def PortCounters.StaysInRange (k : PortCounters → PortCounters) : Prop :=
  ∀ c : PortCounters, (∀ x, c.get x ≤ Config.counterMax) → ∀ x, (k c).get x ≤ Config.counterMax

theorem PortCounters.bump_staysInRange (x : PortCounter) : PortCounters.StaysInRange (·.bump x) := fun c hc y => by
  dsimp only
  rw [PortCounters.get_bump]
  split
  · exact countUp_le _ (hc x)
  · exact hc y

theorem PortCounters.zero_staysInRange : PortCounters.StaysInRange fun _ => .zero := fun _ _ y => by
  rw [PortCounters.get_zero]
  exact Nat.zero_le _

/-- A count keeps a record in range (R84). -/
theorem StationRecord.InRange.bump {r : StationRecord} (h : r.InRange) (c : StationCounter) :
    ({ r with counters := r.counters.bump c } : StationRecord).InRange where
  level_pos := h.level_pos
  level_le := h.level_le
  counters x := by
    dsimp only
    rw [StationCounters.get_bump]
    split
    · exact countUp_le _ (h.counters c)
    · exact h.counters x

/-- A clear keeps a record in range (R85). -/
theorem StationRecord.InRange.clear {r : StationRecord} (h : r.InRange) :
    ({ r with counters := .zero } : StationRecord).InRange where
  level_pos := h.level_pos
  level_le := h.level_le
  counters x := by simp

/-- No allowed field is out of its range (R161). -/
theorem eq_true_of_firstBad_eq_none {fields : List Bool} (h : firstBad fields = none) : ∀ b ∈ fields, b = true := by
  simpa [firstBad, List.findIdx?_eq_none_iff] using h

theorem Settings.ofPayload_inRange {payload : List Byte} (hb : firstBad (settingsFields payload) = none) :
    (Settings.ofPayload payload).InRange := by
  have hall := eq_true_of_firstBad_eq_none hb
  simp only [settingsFields, List.forall_mem_cons, decide_eq_true_eq] at hall
  obtain ⟨⟨hd1, hd2⟩, -, ⟨hs1, hs2⟩, ht, ⟨hg1, hg2⟩, -⟩ := hall
  exact ⟨hd1, hd2, hs1, hs2, ht, hg1, hg2⟩

theorem Timing.ofPayload_inRange {payload : List Byte} (hb : firstBad (timingFields payload) = none) :
    (Timing.ofPayload payload).InRange := by
  have hbyte : ∀ k, byteAt payload k ≤ 255 := fun k => Nat.le_of_lt_succ (payload.getD k 0).isLt
  have hall := eq_true_of_firstBad_eq_none hb
  simp only [timingFields, List.forall_mem_cons, decide_eq_true_eq] at hall
  obtain ⟨hr, hl, ha, hal, hc, ⟨hw1, hw2⟩, ⟨hs1, hs2⟩, -⟩ := hall
  exact ⟨hr, hbyte 0, hl, ha, hbyte 2, hal, hc, hbyte 4, hw1, hw2, hs1, hs2⟩

/-! ### The operations -/

/-- The changes of single blocks that a condition `P` on the state must be kept by. What `P` may read is the ports, the Exchange
Table with its order, the station records, the timing, the mode, the line and the factors. -/
structure State.BlockRules (P : State → Prop) : Prop where
  unread : ∀ {s t : State}, P s →
    t = { s with
      pins := t.pins, restartDeaf := t.restartDeaf, spent := t.spent, mgmtAddr := t.mgmtAddr, stepTimer := t.stepTimer
      handler := t.handler, policy := t.policy, forwarding := t.forwarding, memory := t.memory, pending := t.pending } →
    P t
  receive : ∀ {s : State} (p : Port) {g : PortState → PortState}, P s →
    (∀ q, g q = { q with receiver := (g q).receiver, assembler := (g q).assembler, sinceLast := (g q).sinceLast }) →
    P (s.updatePort p g)
  counters : ∀ {s : State} (p : Port) {k : PortCounters → PortCounters}, P s → PortCounters.StaysInRange k →
    P (s.updatePort p fun q => { q with counters := k q.counters })
  updateU : ∀ {s : State} {g : PortState → PortState}, P s → (∀ q : PortState, q.InRange → (g q).InRange) →
    P (s.updatePort .u g)
  setFactors : ∀ {s : State} {fs : List FactorState}, P s → (s.FactorLevelsInRange → ∀ x ∈ fs, x.level ≤ 3) →
    P { s with factors := fs }
  updateStation : ∀ {s : State} (a : Nat) {g : StationRecord → StationRecord}, P s →
    (∀ r : StationRecord, r.InRange → (g r).InRange) → P (s.updateStation a g)
  setTiming : ∀ {s : State} {t : Timing}, P s → t.InRange → P { s with timing := t }

/-- The further operations that a condition must be kept by so that every step keeps it, each with what is known when the part
performs it. -/
structure State.KeptRules (P : State → Prop) : Prop extends State.BlockRules P where
  hold : ∀ {s : State}, P s → P { s with u := s.u.hold, d := s.d.hold }
  restarted : ∀ (straps : Straps) (s : State), P (s.restarted straps)
  tick : ∀ {s : State}, P s → P s.tick
  storeD : ∀ {s : State} (f : FrameRecord), P s → s.deaf .d = false →
    P (s.updatePort .d fun q => { q with assembler := .hunt, slot := some f })
  emptyDSlot : ∀ {s : State}, P s → P s.emptyDSlot
  startD : ∀ {s : State}, P s → s.d.slot = none → P (s.updatePort .d PortState.startSending)
  requestSent : ∀ {s : State}, P s → s.driverEnable .d = true → P (s.endSending .d).requestGone
  writePendingD : ∀ {s : State} {payload : List Byte}, P s → (Settings.ofPayload payload).InRange →
    P (s.writePending .d payload)
  dSettingsDue : ∀ {s : State}, P s → P (State.settleDSettings { s with dChangeDue := true })
  setRun : ∀ {s : State}, P s → P { s with mode := .run }
  pauseFrom : ∀ {s : State} (n : Nat), P s → P (State.pauseWithdraw { s with mode := .paused n })
  admitInto : ∀ {s : State} {i : Nat} (f : FrameRecord), P s → s.freeIndex = some i → P (s.admitInto i f)
  freeReady : ∀ {s : State} {i : Nat} {x : Exchange} {o : HeldOutcome} {t : Nat}, P s → s.entryAt i = some x →
    x.phase = .ready o t → P (s.freeEntry i)
  reAskExpiry : ∀ {s : State} (i : Nat), P s → P (s.reAskExpiry i)
  takeMatching : ∀ {s : State} {f : FrameRecord} {i : Nat} {x : Exchange}, P s → s.d.slot = some f →
    s.line.entry = some i → s.entryAt i = some x → P (s.emptyDSlot.takeMatching i x f)
  waitedTimeout : ∀ {s : State}, P s → P s.waitedTimeout
  replyExpiry : ∀ {s : State}, P s → P s.replyExpiry
  select : ∀ {s : State}, P s → P s.select
  flush : ∀ {s : State} (a : Nat), P s → P (s.flush a)
  clearExchanges : ∀ {s : State}, P s → P s.clearExchanges

/-! ### Factors, counts and levels -/

namespace State.BlockRules

variable {P : State → Prop} {s : State}

/-- A factor that is raised keeps its level (R149). -/
theorem raise (hP : BlockRules P) (h : P s) (g : Factor) : P (s.raise g) :=
  hP.setFactors h fun hl x hx => by
    rw [List.modify_eq_set_getElem?] at hx
    cases hg : s.factors[g.code - 1]? with
    | none => exact hl x (by simpa [hg] using hx)
    | some y =>
      rw [hg] at hx
      rcases List.mem_or_eq_of_mem_set hx with hx | rfl
      · exact hl x hx
      · exact hl y (List.mem_of_getElem? hg)

theorem countPort (hP : BlockRules P) (h : P s) (p : Port) (c : PortCounter) : P (s.countPort p c) := by
  have hc := hP.counters p h (PortCounters.bump_staysInRange c)
  unfold State.countPort State.raiseOpt
  split
  · exact hP.raise hc _
  · exact hc

theorem countStation (hP : BlockRules P) (h : P s) (c : StationCounter) (a : Nat) : P (s.countStation c a) :=
  hP.updateStation a h fun _ hr => hr.bump c

theorem setLevel (hP : BlockRules P) (h : P s) (a : Nat) {level : Nat} (h1 : 1 ≤ level) (h8 : level ≤ 8) :
    P (s.setLevel a level) := by
  have hs := hP.updateStation a (g := fun r => { r with level := level }) h fun _ hr => ⟨h1, h8, hr.counters⟩
  unfold State.setLevel
  split
  · dsimp only
    split
    · exact hP.raise hs _
    · exact hs
  · exact h

theorem advanceLevel (hP : BlockRules P) (h : P s) (a : Nat) : P (s.advanceLevel a) := by
  unfold State.advanceLevel
  refine hP.setLevel h a ?_ ?_ <;> split <;> omega

/-- Discovery changes the side of a record and its downstream address, or raises a factor (R81). -/
theorem learnDownstream (hP : BlockRules P) (h : P s) (a : Nat) : P (s.learnDownstream a) := by
  unfold State.learnDownstream
  split
  · exact h
  split
  · exact hP.raise h _
  · have hside := hP.updateStation a (g := fun r => { r with side := .downstream, aliasAddr := a }) h
      fun _ hr => ⟨hr.level_pos, hr.level_le, hr.counters⟩
    exact hP.raise hside _

end State.BlockRules

namespace State.KeptRules

variable {P : State → Prop} {s : State} {f : FrameRecord}

/-! ### The Request Handler (chapter 5) -/

theorem silence (hP : KeptRules P) (h : P s) : P s.silence := hP.unread h rfl

theorem sendAnswer (hP : KeptRules P) (h : P s) (m : AnswerMark) (g : FrameRecord) : P (s.sendAnswer m g) := by
  have hu : P (s.handOver .u g) := hP.updateU h fun _ hq => ⟨hq.counters, hq.live, hq.pendingCopy⟩
  exact hP.unread hu rfl

theorem answerRepeat (hP : KeptRules P) (h : P s) {i : Nat} {x : Exchange} (hx : s.entryAt i = some x) :
    P (s.answerRepeat f i x) := by
  unfold State.answerRepeat
  split
  · next o t hp => exact hP.sendAnswer (hP.countStation (hP.freeReady h hx hp) _ _) _ _
  all_goals exact hP.sendAnswer h _ _

theorem refuseBusy (hP : KeptRules P) (h : P s) : P (s.refuseBusy f) :=
  hP.sendAnswer (hP.raise (hP.countStation h _ _) _) _ _

theorem judgeNew (hP : KeptRules P) (h : P s) : P (s.judgeNew f) := by
  have hspent : P (s.removeSpent f.key) := hP.unread h rfl
  unfold State.judgeNew
  split
  · exact hP.sendAnswer h _ _
  split
  · exact hP.sendAnswer hspent _ _
  split
  · exact hP.refuseBusy h
  split
  · exact hP.refuseBusy h
  · next i hi => exact hP.sendAnswer (hP.admitInto f h hi) _ _

theorem matchOrAdmit (hP : KeptRules P) (h : P s) : P (s.matchOrAdmit f) := by
  unfold State.matchOrAdmit
  split
  · split
    · next x hx => exact hP.answerRepeat h hx
    · exact hP.judgeNew h
  · exact hP.judgeNew h

theorem decideUnknown (hP : KeptRules P) (h : P s) : P (s.decideUnknown f) := by
  unfold State.decideUnknown
  split
  · exact hP.matchOrAdmit h
  split
  · exact hP.silence h
  split
  · exact hP.silence (hP.raise h _)
  · exact hP.unread h rfl

theorem decideStation (hP : KeptRules P) (h : P s) : P (s.decideStation f) := by
  unfold State.decideStation
  split
  · split
    · exact hP.decideUnknown h
    · exact hP.silence h
    · exact hP.matchOrAdmit h
    · exact hP.sendAnswer h _ _
    · exact hP.silence h
  · exact hP.silence h

theorem decideNote (hP : KeptRules P) (h : P s) : P (s.decideNote f) := by
  unfold State.decideNote
  split
  · split
    · exact hP.silence h
    · split
      · next i hi => exact hP.silence (hP.admitInto f h hi)
      · exact hP.silence (hP.raise h _)
  · exact hP.silence h

theorem learnLocal (hP : KeptRules P) (h : P s) (a : Nat) : P (s.learnLocal a) := by
  unfold State.learnLocal
  split
  · have hside := hP.updateStation a (g := fun r => { r with side := .localSide }) h
      fun _ hr => ⟨hr.level_pos, hr.level_le, hr.counters⟩
    exact hP.raise (hP.flush a hside) _
  · exact h

theorem clashCheck (hP : KeptRules P) (h : P s) : P (s.clashCheck f) := by
  unfold State.clashCheck
  split
  · exact hP.countPort h _ _
  · exact h

theorem decideAnswer (hP : KeptRules P) (h : P s) (before : Handler) : P (s.decideAnswer before f) := by
  unfold State.decideAnswer
  split
  · split
    · exact hP.silence (hP.learnLocal h _)
    · exact hP.silence h
  all_goals exact hP.silence (hP.clashCheck h)

/-! ### The Management Unit (chapter 9) -/

theorem forgetMemory (hP : KeptRules P) (h : P s) : P s.forgetMemory := hP.unread h rfl

/-- A SET keeps the condition if its effect does once its length and fields are allowed (R161). -/
theorem judgeSet (hP : KeptRules P) (h : P s) {len : Nat} {fields : List Byte → List Bool} {m : AnswerMark}
    {effect : List Byte → State → State}
    (he : f.payload.length = len → firstBad (fields f.payload) = none → P (effect f.payload s.forgetMemory)) :
    P (s.judgeSet len fields m effect f) := by
  unfold State.judgeSet
  dsimp only
  split
  · exact hP.sendAnswer (hP.forgetMemory h) _ _
  · next hlen =>
    split
    · exact hP.sendAnswer (hP.forgetMemory h) _ _
    · next hb => exact hP.sendAnswer (he (not_not.1 hlen) hb) _ _

theorem acknowledge (hP : KeptRules P) (h : P s) (codes : List Byte) : P (s.acknowledge codes) :=
  hP.setFactors h fun hl x hx => by
    obtain ⟨k, hk, rfl⟩ := List.mem_mapIdx.1 hx
    have := hl _ (List.getElem_mem hk)
    split <;> exact this

theorem writeLevels (hP : KeptRules P) (h : P s) {levels : List Byte} (hl : ∀ b ∈ levels, b.toNat ≤ 3) :
    P (s.writeLevels levels) :=
  hP.setFactors h fun _ x hx => by
    obtain ⟨k, hk, rfl⟩ := List.mem_mapIdx.1 hx
    show (levels.getD k 0).toNat ≤ 3
    by_cases hlt : k < levels.length
    · simpa [hlt] using hl _ (List.getElem_mem hlt)
    · simp [hlt]

theorem writePending (hP : KeptRules P) (h : P s) (p : Port) {payload : List Byte}
    (hb : firstBad (settingsFields payload) = none) : P (s.writePending p payload) := by
  have hr := Settings.ofPayload_inRange hb
  cases p with
  | u =>
    exact hP.updateU (g := fun q => { q with pendingCopy := .ofPayload payload, pendingFlag := true }) h
      fun _ hq => ⟨hq.counters, hq.live, hr⟩
  | d => exact hP.writePendingD h hr

theorem writeTiming (hP : KeptRules P) (h : P s) {payload : List Byte} (hb : firstBad (timingFields payload) = none) :
    P (s.writeTiming payload) :=
  hP.unread (hP.setTiming h (Timing.ofPayload_inRange hb)) rfl

theorem pauseFor (hP : KeptRules P) (h : P s) (d : Nat) : P (s.pauseFor d) := by
  unfold State.pauseFor
  split
  · exact hP.setRun h
  · exact hP.pauseFrom _ h

theorem writeStation (hP : KeptRules P) (h : P s) (a : Nat) (side : Side) (payload : List Byte) :
    P (s.writeStation a side payload) := by
  have hstore : P (s.storeStation a side payload) := by
    have hset := hP.updateStation a
      (g := fun r =>
        { r with
          side := side, aliasAddr := writtenAlias a side (byteAt payload 1), cls := byteAt payload 2
          permit := byteAt payload 3 == 1 })
      h fun _ hr => ⟨hr.level_pos, hr.level_le, hr.counters⟩
    unfold State.storeStation
    dsimp only
    split
    · exact hP.setLevel hset a (Nat.le_refl 1) (by decide)
    · exact hset
  unfold State.writeStation
  split
  · exact hP.flush a hstore
  · exact hstore

theorem decideStationWrite (hP : KeptRules P) (h : P s) : P (s.decideStationWrite f) := by
  unfold State.decideStationWrite
  dsimp only
  split
  · exact hP.sendAnswer (hP.forgetMemory h) _ _
  · exact hP.judgeSet h fun _ _ => hP.writeStation (hP.forgetMemory h) _ _ _

theorem readAndClear (hP : KeptRules P) (h : P s) {clear : State → State} {payload : List Byte}
    (hc : P (clear s.forgetMemory)) : P (s.readAndClear clear payload f) := by
  unfold State.readAndClear
  split
  · exact hP.sendAnswer h _ _
  · exact hP.sendAnswer (hP.unread hc rfl) _ _

theorem clearStationCounters (hP : KeptRules P) (h : P s) (a : Nat) : P (s.clearStationCounters a) :=
  hP.updateStation a h fun _ hr => hr.clear

theorem clearPortCounters (hP : KeptRules P) (h : P s) : P s.clearPortCounters :=
  hP.counters .d (hP.counters .u h PortCounters.zero_staysInRange) PortCounters.zero_staysInRange

theorem decideManagementRequest (hP : KeptRules P) (h : P s) : P (s.decideManagementRequest f) := by
  unfold State.decideManagementRequest
  dsimp only
  split
  · exact hP.sendAnswer (hP.forgetMemory h) _ _
  · split
    · exact hP.sendAnswer (hP.forgetMemory h) _ _
    · exact hP.sendAnswer (hP.forgetMemory h) _ _

/-! ### Taking a frame (R26) -/

theorem decide (hP : KeptRules P) (h : P s) (t : Taking) (before : Handler) : P (s.decide t before f) := by
  have hm := hP.forgetMemory h
  cases t with
  | stationRequest => exact hP.decideStation h
  | note => exact hP.decideNote h
  | uAnswerFrame => exact hP.decideAnswer h before
  | factorAck => exact hP.judgeSet h fun _ _ => hP.acknowledge hm _
  | factorLevels =>
    exact hP.judgeSet h fun _ hb => hP.writeLevels hm (by simpa using eq_true_of_firstBad_eq_none hb)
  | uPort => exact hP.judgeSet h fun _ hb => hP.writePending hm .u hb
  | dPort => exact hP.judgeSet h fun _ hb => hP.writePending hm .d hb
  | timing => exact hP.judgeSet h fun _ hb => hP.writeTiming hm hb
  | policy => exact hP.judgeSet h fun _ _ => hP.unread hm rfl
  | pause => unfold State.decide State.decidePause; exact hP.judgeSet h fun _ _ => hP.pauseFor hm _
  | flush => unfold State.decide State.decideFlush; exact hP.judgeSet h fun _ _ => hP.flush _ hm
  | clear => unfold State.decide State.decideClear; exact hP.judgeSet h fun _ _ => hP.clearExchanges hm
  | restart => unfold State.decide State.decideRestart; exact hP.judgeSet h fun _ _ => hm
  | station => exact hP.decideStationWrite h
  | countersReadClear => exact hP.readAndClear h (hP.clearStationCounters hm _)
  | portCountersReadClear => exact hP.readAndClear h (hP.clearPortCounters hm)
  | managementRequest => exact hP.decideManagementRequest h

theorem beginTaking (hP : KeptRules P) (h : P s) (f : FrameRecord) : P (s.beginTaking f) := by
  have hu : P (s.updatePort .u fun q => { q with slot := none }) :=
    hP.updateU h fun _ hq => ⟨hq.counters, hq.live, hq.pendingCopy⟩
  exact hP.unread hu rfl

theorem uTakeNow (hP : KeptRules P) (h : P s) : P s.uTakeNow := by
  unfold State.uTakeNow
  split
  · next f _ => exact hP.decide (hP.beginTaking h f) _ _
  · exact h

theorem takeAs (hP : KeptRules P) (h : P s) (t : Taking) : P (s.takeAs t (State.decide t s.handler)) := by
  unfold State.takeAs
  split
  · next f _ =>
    split
    · exact hP.decide (hP.beginTaking h f) _ _
    · exact h
  · exact h

theorem windowExpiry (hP : KeptRules P) (h : P s) : P s.windowExpiry := by
  unfold State.windowExpiry
  split
  · split
    · exact hP.unread h rfl
    · exact hP.matchOrAdmit (hP.unread h rfl)
  all_goals exact h

theorem dispatchForeign (hP : KeptRules P) (h : P s) : P s.dispatchForeign :=
  hP.waitedTimeout (hP.countPort h _ _)

/-- The Dispatcher takes an answer from the D slot: it matches the entry on the line, or counts UNEXPECTED (R119, R121). -/
theorem takeAnswer (hP : KeptRules P) (h : P s) (hf : s.d.slot = some f) : P (s.emptyDSlot.dispatchAnswer f) := by
  have hcount := hP.countPort (hP.emptyDSlot h) .d .unexpected
  have tested : ∀ i addr, s.line.entry = some i →
      P (match s.emptyDSlot.entryAt i with
        | some x =>
          if answerMatches x addr f then s.emptyDSlot.takeMatching i x f
          else (s.emptyDSlot.countPort .d .unexpected).waitedTimeout
        | none => s.emptyDSlot.countPort .d .unexpected) := fun i addr hl => by
    split
    · next x hx =>
      split
      · exact hP.takeMatching h hf hl hx
      · exact hP.waitedTimeout hcount
    · exact hcount
  unfold State.dispatchAnswer
  split
  · exact hcount
  · next i addr hl => exact tested i addr (congrArg Line.entry hl)
  · next i addr t hl => exact tested i addr (congrArg Line.entry hl)

theorem dTakeNow (hP : KeptRules P) (h : P s) : P s.dTakeNow := by
  unfold State.dTakeNow
  split
  · split
    · next f hf =>
      split
      · exact hP.dispatchForeign (hP.emptyDSlot h)
      · exact hP.takeAnswer h hf
    · exact h
  · exact h

theorem takeStored (hP : KeptRules P) (h : P s) (p : Port) : P (s.takeStored p) := by
  cases p
  · exact hP.uTakeNow h
  · exact hP.dTakeNow h

/-! ### The ports (chapter 2) -/

theorem reportLost (hP : KeptRules P) (h : P s) (p : Port) : P (s.reportLost p) := by
  cases p with
  | u =>
    unfold State.reportLost
    dsimp only
    split
    · exact hP.silence h
    all_goals exact h
  | d => exact hP.waitedTimeout h

theorem loseFrame (hP : KeptRules P) (h : P s) (p : Port) (c : PortCounter) : P (s.loseFrame p c) :=
  hP.reportLost (hP.countPort (hP.receive p (g := fun q => { q with assembler := .hunt }) h fun _ => rfl) p c) p

theorem storeFrame (hP : KeptRules P) (h : P s) (p : Port) (hd : s.deaf p = false) : P (s.storeFrame p f) := by
  unfold State.storeFrame
  split
  · exact hP.loseFrame h p _
  · refine hP.countPort ?_ p _
    cases p with
    | u => exact hP.updateU h fun _ hq => ⟨hq.counters, hq.live, hq.pendingCopy⟩
    | d => exact hP.storeD f h hd

theorem endFrame (hP : KeptRules P) (h : P s) (p : Port) (hd : s.deaf p = false) (chars : List Byte)
    (e : Option CharError) : P (s.endFrame p chars e) := by
  unfold State.endFrame
  split
  · exact hP.loseFrame h p _
  · exact hP.storeFrame h p hd

theorem huntCharacter (hP : KeptRules P) (h : P s) (p : Port) (ch : RxChar) : P (s.huntCharacter p ch) := by
  unfold State.huntCharacter
  split
  · exact hP.receive p h fun _ => rfl
  · exact hP.countPort h p _

theorem collectCharacter (hP : KeptRules P) (h : P s) (p : Port) (hd : s.deaf p = false) (ch : RxChar)
    (chars : List Byte) (e : Option CharError) : P (s.collectCharacter p ch chars e) := by
  unfold State.collectCharacter
  dsimp only
  split
  · exact hP.loseFrame h p _
  split
  · exact hP.endFrame h p hd _ _
  · exact hP.receive p (g := fun q => { q with assembler := .collect (chars ++ [ch.value]) (e.or ch.error) q.live.gapTime })
      h fun _ => rfl

theorem deliverCharacter (hP : KeptRules P) (h : P s) (p : Port) (hd : s.deaf p = false) (ch : RxChar) :
    P (s.deliverCharacter p ch) := by
  have hs := hP.receive p (g := fun q => { q with receiver := .looking, sinceLast := some 0 }) h fun _ => rfl
  have hd' : (s.updatePort p fun q => { q with receiver := .looking, sinceLast := some 0 }).deaf p = false := by
    simpa [State.deaf, State.driverEnable] using hd
  unfold State.deliverCharacter
  dsimp only
  split
  · exact hP.huntCharacter hs p ch
  · exact hP.collectCharacter hs p hd' ch _ _

theorem lineEvent (hP : KeptRules P) (h : P s) (p : Port) (e : LineEvent) : P (s.lineEvent p e) := by
  cases e with
  | startEdge =>
    exact hP.receive p (g := fun q => { q with receiver := if s.deaf p then .missed else .reading }) h fun _ => rfl
  | samples levels =>
    have hlost := hP.receive p (g := fun q => { q with receiver := .looking }) h fun _ => rfl
    unfold State.lineEvent State.endCharacter
    dsimp only
    split
    · exact hlost
    · next hheard =>
      split
      · exact hlost
      · simp only [Bool.or_eq_true, not_or, Bool.not_eq_true] at hheard
        exact hP.deliverCharacter h p hheard.1 _

theorem gapExpiry (hP : KeptRules P) (h : P s) (p : Port) : P (s.gapExpiry p) := by
  unfold State.gapExpiry
  split
  · exact hP.loseFrame h p _
  · exact hP.loseFrame h p _
  all_goals exact h

end State.KeptRules

/-! ### The D slot after a taking (R26)

No operation of the Dispatcher stores a frame. -/

@[simp] theorem State.raise_d_slot (g : Factor) (s : State) : (s.raise g).d.slot = s.d.slot := rfl

@[simp] theorem State.countPort_d_slot (p : Port) (c : PortCounter) (s : State) :
    (s.countPort p c).d.slot = s.d.slot := by
  cases p <;> simp [State.countPort]

@[simp] theorem State.withdrawFrame_d_slot (s : State) : s.withdrawFrame.d.slot = s.d.slot := by
  unfold State.withdrawFrame
  split <;> rfl

@[simp] theorem State.lineIdle_d_slot (s : State) : s.lineIdle.d.slot = s.d.slot := by
  simp [State.lineIdle]

@[simp] theorem State.learnDownstream_d (a : Nat) (s : State) : (s.learnDownstream a).d = s.d := by
  unfold State.learnDownstream
  split
  · rfl
  · split <;> simp

@[simp] theorem State.settle_d (i : Nat) (x : Exchange) (o : HeldOutcome) (s : State) : (s.settle i x o).d = s.d := by
  have hready : ∀ t : State, (t.settleReady i x o).d = t.d := fun _ => rfl
  have hposted : ∀ t : State, (t.settlePosted i x.key.addr o.kind).d = t.d := fun t => by
    unfold State.settlePosted
    dsimp only
    split <;> simp
  unfold State.settle
  dsimp only
  split <;> split <;> simp [hready, hposted]

@[simp] theorem State.settleSilent_d (i : Nat) (x : Exchange) (s : State) : (s.settleSilent i x).d = s.d := by
  simp [State.settleSilent]

@[simp] theorem State.actOnAnswer_d (i : Nat) (x : Exchange) (f : FrameRecord) (s : State) :
    (s.actOnAnswer i x f).d = s.d := by
  unfold State.actOnAnswer State.farTurnedAway
  split
  · split <;> simp
  · simp

@[simp] theorem State.takeMatching_d_slot (i : Nat) (x : Exchange) (f : FrameRecord) (s : State) :
    (s.takeMatching i x f).d.slot = s.d.slot := by
  unfold State.takeMatching
  dsimp only
  split <;> split <;> simp

@[simp] theorem State.timeoutEffect_d_slot (i : Nat) (x : Exchange) (a : Nat) (s : State) :
    (s.timeoutEffect i x a).d.slot = s.d.slot := by
  unfold State.timeoutEffect State.afterTimeout State.sendAttempt
  dsimp only
  split
  · simp
  · split
    · split <;> simp
    · simp

@[simp] theorem State.waitedTimeout_d_slot (s : State) : s.waitedTimeout.d.slot = s.d.slot := by
  rcases s.waitedTimeout_cases with he | ⟨i, a, x, -, -, he⟩ <;> simp [he]

@[simp] theorem State.dispatchAnswer_d_slot (f : FrameRecord) (s : State) :
    (s.dispatchAnswer f).d.slot = s.d.slot := by
  unfold State.dispatchAnswer
  dsimp only
  split
  · simp
  all_goals
    split
    · split <;> simp
    · simp

@[simp] theorem State.dispatchAnswer_pins (f : FrameRecord) (s : State) : (s.dispatchAnswer f).pins = s.pins := by
  unfold State.dispatchAnswer
  dsimp only
  split
  · simp
  all_goals
    split
    · split <;> simp
    · simp

/-- Once the Dispatcher has taken what it could, the D slot is empty (R26). -/
theorem State.dTakeNow_d_slot {s : State} (hr : s.pins.resetN = true) : s.dTakeNow.d.slot = none := by
  unfold State.dTakeNow
  rw [if_pos hr]
  split
  · split
    · simp [State.dispatchForeign, State.emptyDSlot]
    · simp [State.emptyDSlot]
  · assumption

@[simp] theorem State.dTakeNow_pins (s : State) : s.dTakeNow.pins = s.pins := by
  unfold State.dTakeNow State.dispatchForeign State.emptyDSlot
  split
  · split
    · split <;> simp
    · rfl
  · rfl

/-! ### Commands and steps -/

namespace State.KeptRules

variable {P : State → Prop} {s : State}

theorem ite {c : Prop} [Decidable c] {t u : State} (ht : P t) (hu : P u) : P (if c then t else u) := by
  split <;> assumption

theorem startSending (hP : KeptRules P) (h : P s) (p : Port) (hr : (s.takeStored p).pins.resetN = true) :
    P ((s.takeStored p).updatePort p PortState.startSending) := by
  cases p with
  | u =>
    refine hP.updateU (hP.uTakeNow h) fun q hq => ?_
    unfold PortState.startSending
    split
    · exact ⟨hq.counters, hq.live, hq.pendingCopy⟩
    all_goals exact hq
  | d => exact hP.startD (hP.dTakeNow h) (State.dTakeNow_d_slot (by simpa [State.takeStored] using hr))

theorem answerGone (hP : KeptRules P) (h : P s) (straps : Straps) : P (s.answerGone straps) := by
  have hdeaf : ∀ n, P { s.restarted straps with restartDeaf := some n } := fun _ =>
    hP.unread (hP.restarted straps s) rfl
  unfold State.answerGone
  split
  · exact hP.silence h
  · exact hP.silence (hP.updateU (g := PortState.applyPending) h fun _ hq => ⟨hq.counters, hq.pendingCopy, hq.pendingCopy⟩)
  · exact hP.silence (hP.dSettingsDue h)
  · exact hdeaf _
  all_goals exact h

theorem frameSent (hP : KeptRules P) (h : P s) (p : Port) (straps : Straps) (hd : s.driverEnable p = true) :
    P ((s.endSending p).reportSent p straps) := by
  cases p with
  | u =>
    have hu := hP.updateU
      (g := fun q => { q with tx := .idle, receiver := q.receiver.abandon, assembler := .hunt, sinceLast := some 0 })
      h fun _ hq => ⟨hq.counters, hq.live, hq.pendingCopy⟩
    exact hP.answerGone (hP.countPort hu .u .framesOut) straps
  | d => exact hP.requestSent h hd

theorem collectionExpiry (hP : KeptRules P) (h : P s) (i : Nat) : P (s.collectionExpiry i) := by
  unfold State.collectionExpiry
  split
  · next x hx =>
    split
    · next o t hp =>
      have hfree := hP.raise (hP.countStation (hP.freeReady h hx hp) .discards x.key.addr) .discarded
      unfold State.discardOutcome
      dsimp only
      split
      · exact hP.unread hfree rfl
      · exact hfree
    all_goals exact h
  · exact h

theorem ladderExpiry (hP : KeptRules P) (h : P s) : P s.ladderExpiry := by
  have hall : ∀ (ks : List Nat) (t : State), P t → P (ks.foldl (fun t k => t.stepStation (k + 1)) t) := fun ks => by
    induction ks with
    | nil => exact fun _ ht => ht
    | cons k ks ih => exact fun t ht => ih _ (ite (hP.advanceLevel ht (k + 1)) ht)
  have ht := hall (List.range Config.stationCount) s h
  unfold State.ladderExpiry
  generalize (List.range Config.stationCount).foldl _ s = t at ht ⊢
  exact hP.unread ht rfl

/-- Every command keeps the condition. -/
theorem exec (hP : KeptRules P) (h : P s) : ∀ c : Instr, ∃ t, exec c s = .next t ∧ P t
  | .resetNLow => ⟨_, rfl, hP.unread (hP.hold h) rfl⟩
  | .resetEnd straps => ⟨_, rfl, hP.restarted straps s⟩
  | .characterReceived p e => ⟨_, rfl, hP.lineEvent (hP.takeStored h p) p e⟩
  | .gapLimitExpiry p => ⟨_, rfl, ite (hP.takeStored h p) (hP.gapExpiry (hP.takeStored h p) p)⟩
  | .transmitStart p => by
    refine ⟨_, rfl, ?_⟩
    split
    · next hs =>
      simp only [Bool.and_eq_true] at hs
      exact hP.startSending h p hs.1
    · exact hP.takeStored h p
  | .frameSent p straps => by
    refine ⟨_, rfl, ?_⟩
    split
    · next hs =>
      simp only [Bool.and_eq_true] at hs
      exact hP.frameSent h p straps hs.2
    · exact h
  | .deafPeriodEnd => ⟨_, rfl, ite (hP.unread h rfl) h⟩
  | .discoveryWindowExpiry => ⟨_, rfl, ite (by split; exacts [hP.uTakeNow h, hP.windowExpiry h]) h⟩
  | .selection => ⟨_, rfl, hP.select (hP.dTakeNow h)⟩
  | .dAnswerFrame => ⟨_, rfl, ite (hP.dTakeNow h) h⟩
  | .foreignRequest => ⟨_, rfl, ite (hP.dTakeNow h) h⟩
  | .replyTimeout => ⟨_, rfl, ite (hP.replyExpiry (hP.dTakeNow h)) h⟩
  | .reAskExpiry i => ⟨_, rfl, ite (hP.reAskExpiry i h) h⟩
  | .collectionExpiry i => ⟨_, rfl, ite (hP.collectionExpiry h i) h⟩
  | .pauseTimerExpiry => ⟨_, rfl, ite (by split; exacts [hP.raise (hP.setRun h) _, h]) h⟩
  | .ladderStep => ⟨_, rfl, ite (hP.ladderExpiry h) h⟩
  | .stationRequest => ⟨_, rfl, hP.takeAs h .stationRequest⟩
  | .note => ⟨_, rfl, hP.takeAs h .note⟩
  | .uAnswerFrame => ⟨_, rfl, hP.takeAs h .uAnswerFrame⟩
  | .factorAck => ⟨_, rfl, hP.takeAs h .factorAck⟩
  | .factorLevels => ⟨_, rfl, hP.takeAs h .factorLevels⟩
  | .uPort => ⟨_, rfl, hP.takeAs h .uPort⟩
  | .dPort => ⟨_, rfl, hP.takeAs h .dPort⟩
  | .timing => ⟨_, rfl, hP.takeAs h .timing⟩
  | .policy => ⟨_, rfl, hP.takeAs h .policy⟩
  | .pause => ⟨_, rfl, hP.takeAs h .pause⟩
  | .flush => ⟨_, rfl, hP.takeAs h .flush⟩
  | .clear => ⟨_, rfl, hP.takeAs h .clear⟩
  | .restart => ⟨_, rfl, hP.takeAs h .restart⟩
  | .station => ⟨_, rfl, hP.takeAs h .station⟩
  | .countersReadClear => ⟨_, rfl, hP.takeAs h .countersReadClear⟩
  | .portCountersReadClear => ⟨_, rfl, hP.takeAs h .portCountersReadClear⟩
  | .managementRequest => ⟨_, rfl, hP.takeAs h .managementRequest⟩

/-- Every step keeps the condition. -/
theorem step (hP : KeptRules P) (h : P s) : ∃ t, step s = .next t ∧ P t := by
  unfold Machine.step
  split
  · exact hP.exec (hP.unread h rfl) _
  · split
    · exact hP.exec h _
    · exact ⟨_, rfl, ite (hP.tick h) h⟩

/-- In the form of the statements: what a step leaves meets the condition if what it found does. -/
theorem of_step (hP : KeptRules P) (h : P s) {t : State} (ht : Machine.step s = .next t) : P t := by
  obtain ⟨u, hu, hpu⟩ := hP.step h
  cases hu.symm.trans ht
  exact hpu

end State.KeptRules

end Sys2Proof.Machine
end

section
/-! Every step keeps levels, counters, settings and attempts in their ranges (O55). -/

namespace Sys2Proof.Machine

/-! ### The condition, block by block -/

/-- Every block holds its values in their ranges. -/
structure State.InRanges (s : State) : Prop where
  u : s.u.InRange
  d : s.d.InRange
  stations : ∀ a, isStation a = true → (s.stationAt a).InRange
  factors : s.FactorLevelsInRange
  timing : s.timing.InRange
  entries : ∀ i x, s.entryAt i = some x → x.CountsInRange

/-- The limits on attempts and re-asks are timing values, in range with these. -/
theorem State.inRanges_iff (s : State) :
    s.InRanges ↔
      s.LevelsInRange ∧ s.CountersInRange ∧ s.FactorLevelsInRange ∧ s.SettingsInRange ∧ s.AttemptsInRange := by
  constructor
  · rintro ⟨hu, hd, hs, hf, ht, hx⟩
    refine ⟨fun a ha => ⟨(hs a ha).level_pos, (hs a ha).level_le⟩, ⟨fun p => ?_, fun a c ha => (hs a ha).counters c⟩,
      hf, ⟨ht, fun p => ?_⟩, ?_⟩
    · cases p
      · exact hu.counters
      · exact hd.counters
    · cases p
      · exact ⟨hu.live, hu.pendingCopy⟩
      · exact ⟨hd.live, hd.pendingCopy⟩
    · obtain ⟨-, -, hretry, -, -, hreAsk, -⟩ := ht
      exact ⟨hretry, hreAsk, hx⟩
  · rintro ⟨hl, ⟨hp, hs⟩, hf, ⟨ht, hset⟩, -, -, hx⟩
    exact ⟨⟨hp .u, (hset .u).1, (hset .u).2⟩, ⟨hp .d, (hset .d).1, (hset .d).2⟩,
      fun a ha => ⟨(hl a ha).1, (hl a ha).2, fun c => hs a c ha⟩, hf, ht, hx⟩

/-! ### What an exchange counts (R39, R44, R47) -/

namespace Exchange.CountsInRange

variable {x : Exchange}

/-- Neither QUEUED nor FAR_WAIT asks more of the attempts than that they are 8 at most. -/
theorem withPhase (h : x.CountsInRange) {p : Phase} (hq : p ≠ .queued) (hf : ∀ t, p ≠ .farWait t) :
    ({ x with phase := p } : Exchange).CountsInRange :=
  ⟨h.1, h.2.1, fun hp => absurd hp hq, fun t hp => absurd hp (hf t)⟩

theorem queued (h : x.CountsInRange) {n : Nat} (hn : n ≤ 7) :
    ({ x with phase := .queued, attempts := n } : Exchange).CountsInRange :=
  ⟨Nat.le_succ_of_le hn, h.2.1, fun _ => hn, nofun⟩

theorem lessAttempt (h : x.CountsInRange) : ({ x with attempts := x.attempts - 1 } : Exchange).CountsInRange := by
  obtain ⟨ha, hr, hq, hf⟩ := h
  exact ⟨by dsimp only; omega, hr, fun hp => by have := hq hp; dsimp only; omega,
    fun t hp => by have := hf t hp; dsimp only; omega⟩

theorem tick (h : x.CountsInRange) : x.tick.CountsInRange := by
  obtain ⟨ha, hr, hq, hf⟩ := h
  refine ⟨ha, hr, fun hp => hq ?_, fun t hp => ?_⟩
  · cases hx : x.phase <;> simp [Exchange.tick, hx] at hp ⊢
  · cases hx : x.phase <;> simp [Exchange.tick, hx] at hp
    exact hf _ hx

/-- A withdrawal that leaves an entry leaves its counts (R57, R61). -/
theorem withdrawnOrFree (h : x.CountsInRange) {y : Exchange} (hy : x.withdrawnOrFree = some y) : y.CountsInRange := by
  unfold Exchange.withdrawnOrFree at hy
  split at hy
  · cases hy
    exact h.withPhase nofun nofun
  · cases hy

end Exchange.CountsInRange

/-- What an entry holds after one is written: the exchange written, or as before (R39). -/
theorem State.entryAt_setEntry_or (s : State) (i j : Nat) (x : Exchange) :
    (s.setEntry i x).entryAt j = some x ∨ (s.setEntry i x).entryAt j = s.entryAt j := by
  by_cases hi : i < s.entries.length
  · rw [s.entryAt_setEntry i j x hi]
    split
    · exact .inl rfl
    · exact .inr rfl
  · exact .inr (by rw [State.entryAt, State.setEntry, List.set_eq_of_length_le (Nat.le_of_not_lt hi), State.entryAt])

/-- A frame that may be sent once more has its entry below 8 attempts (R128). -/
theorem State.attemptLimit_le {s : State} (h : s.timing.InRange) (a : Nat) : s.attemptLimit a ≤ 8 := by
  obtain ⟨-, -, hretry, -⟩ := h
  unfold State.attemptLimit
  split <;> omega

/-- A selection picks a QUEUED entry (R116). -/
theorem State.isQueued_of_pick {s : State} {i : Nat} {x : Exchange} (h : s.pick = some i) (hx : s.entryAt i = some x) :
    x.phase = .queued := by
  have hc := List.find?_some h
  simp only [beq_iff_eq, State.candidateClass, hx] at hc
  split at hc
  · next hq => simpa [Exchange.isQueued] using hq
  · cases hc

theorem State.InRanges.updatePort {s : State} (h : s.InRanges) (p : Port) {g : PortState → PortState}
    (hg : ∀ q : PortState, q.InRange → (g q).InRange) : (s.updatePort p g).InRanges := by
  cases p with
  | u => exact ⟨hg _ h.u, h.d, h.stations, h.factors, h.timing, h.entries⟩
  | d => exact ⟨h.u, hg _ h.d, h.stations, h.factors, h.timing, h.entries⟩

theorem State.inRanges_blockRules : BlockRules State.InRanges where
  unread h he := by
    rw [he]
    exact ⟨h.u, h.d, h.stations, h.factors, h.timing, h.entries⟩
  receive p g h hg := by
    have hq : ∀ q : PortState, q.InRange → (g q).InRange := fun q hq => by
      rw [hg q]
      exact ⟨hq.counters, hq.live, hq.pendingCopy⟩
    exact h.updatePort p hq
  counters p _ h hk := h.updatePort p fun q hq => ⟨hk q.counters hq.counters, hq.live, hq.pendingCopy⟩
  updateU h hg := h.updatePort .u hg
  setFactors h hf := ⟨h.u, h.d, h.stations, hf h.factors, h.timing, h.entries⟩
  updateStation {s} a g h hg :=
    { u := by simpa using h.u
      d := by simpa using h.d
      stations := fun b hb => by
        rcases s.stationAt_updateStation_or a b g with hs | ⟨-, ha, hs⟩ <;> rw [hs]
        · exact h.stations b hb
        · exact hg _ (h.stations a ha)
      factors := by simpa [State.FactorLevelsInRange] using h.factors
      timing := by simpa using h.timing
      entries := by simpa [State.entryAt] using h.entries }
  setTiming h ht := ⟨h.u, h.d, h.stations, h.factors, ht, h.entries⟩

namespace State.InRanges

variable {s : State} {i : Nat} {x : Exchange}

/-! ### Entries -/

theorem setEntry (h : s.InRanges) (i : Nat) (hx : x.CountsInRange) : (s.setEntry i x).InRanges where
  u := h.u
  d := h.d
  stations := h.stations
  factors := h.factors
  timing := h.timing
  entries j y hy := by
    rcases s.entryAt_setEntry_or i j x with he | he <;> rw [he] at hy
    · cases hy
      exact hx
    · exact h.entries j y hy

theorem freeEntry (h : s.InRanges) (i : Nat) : (s.freeEntry i).InRanges where
  u := h.u
  d := h.d
  stations := h.stations
  factors := h.factors
  timing := h.timing
  entries j y hy := by
    rw [s.entryAt_freeEntry i j] at hy
    split at hy
    · cases hy
    · exact h.entries j y hy

/-- A change of every entry that keeps the counts of each that is left. -/
theorem mapEntries (h : s.InRanges) {g : Option Exchange → Option Exchange} (hnone : g none = none)
    (hg : ∀ x y, g (some x) = some y → x.CountsInRange → y.CountsInRange) :
    ({ s with entries := s.entries.map g } : State).InRanges where
  u := h.u
  d := h.d
  stations := h.stations
  factors := h.factors
  timing := h.timing
  entries j y hy := by
    have hj : g (s.entryAt j) = some y := (s.entryAt_map g hnone j).symm.trans hy
    cases hx : s.entryAt j with
    | none => rw [hx, hnone] at hj; cases hj
    | some x => exact hg x y (hx ▸ hj) (h.entries j x hx)

theorem setOrder (h : s.InRanges) (o : List Nat) : ({ s with order := o } : State).InRanges :=
  ⟨h.u, h.d, h.stations, h.factors, h.timing, h.entries⟩

theorem setLine (h : s.InRanges) (l : Line) : ({ s with line := l } : State).InRanges :=
  ⟨h.u, h.d, h.stations, h.factors, h.timing, h.entries⟩

theorem setMode (h : s.InRanges) (m : Mode) : ({ s with mode := m } : State).InRanges :=
  ⟨h.u, h.d, h.stations, h.factors, h.timing, h.entries⟩

theorem setSpent (h : s.InRanges) (k : List Key) : ({ s with spent := k } : State).InRanges :=
  ⟨h.u, h.d, h.stations, h.factors, h.timing, h.entries⟩

theorem setDue (h : s.InRanges) (b : Bool) : ({ s with dChangeDue := b } : State).InRanges :=
  ⟨h.u, h.d, h.stations, h.factors, h.timing, h.entries⟩

/-! ### The D line (R36, R44 to R47, R121 to R133) -/

/-- Settings that wait are in range when they become live (R36). -/
theorem settleDSettings (h : s.InRanges) : s.settleDSettings.InRanges := by
  rcases s.settleDSettings_cases with he | ⟨-, -, -, he⟩ <;> rw [he]
  · exact h
  · exact ⟨h.u, ⟨h.d.counters, h.d.pendingCopy, h.d.pendingCopy⟩, h.stations, h.factors, h.timing, h.entries⟩

theorem lineIdle (h : s.InRanges) : s.lineIdle.InRanges := (h.setLine .idle).settleDSettings

/-- What the D transmitter holds is in no range. -/
theorem setDTx (h : s.InRanges) (tx : Transmitter) : (s.updatePort .d fun q => { q with tx := tx }).InRanges :=
  h.updatePort .d fun _ hq => ⟨hq.counters, hq.live, hq.pendingCopy⟩

theorem withdrawFrame (h : s.InRanges) : s.withdrawFrame.InRanges := by
  unfold State.withdrawFrame
  split
  · exact h.setDTx .idle
  · exact h

theorem sendAttempt (h : s.InRanges) (i : Nat) (hx : x.CountsInRange) (hn : x.attempts ≤ 7) (a : Nat) :
    (s.sendAttempt i x a).InRanges := by
  have hset : (s.setEntry i { x with phase := .onLine, attempts := x.attempts + 1 }).InRanges :=
    h.setEntry i ⟨Nat.succ_le_succ hn, hx.2.1, nofun, nofun⟩
  exact (hset.setDTx _).setLine _

theorem settle (h : s.InRanges) (i : Nat) (hx : x.CountsInRange) (o : HeldOutcome) : (s.settle i x o).InRanges := by
  have hlearn : (if x.discovery && o.kind.teaches then s.learnDownstream x.key.addr else s).InRanges := by
    split
    · exact inRanges_blockRules.learnDownstream h _
    · exact h
  unfold State.settle
  dsimp only
  split
  · have hfree := hlearn.freeEntry i
    unfold State.settlePosted
    dsimp only
    split
    · exact hfree
    · exact inRanges_blockRules.raise (inRanges_blockRules.countStation hfree _ _) _
  · have hready : ∀ t, ({ x with phase := .ready o t } : Exchange).CountsInRange := fun _ => hx.withPhase nofun nofun
    exact (hlearn.setEntry i (hready _)).setOrder _

theorem settleSilent (h : s.InRanges) (i : Nat) (hx : x.CountsInRange) : (s.settleSilent i x).InRanges :=
  settle (inRanges_blockRules.countStation h _ _) i hx _

/-- A re-ask is counted below its limit, which is at most 15 (R47, R123). -/
theorem farTurnedAway (h : s.InRanges) (i : Nat) (hx : x.CountsInRange) : (s.farTurnedAway i x).InRanges := by
  obtain ⟨-, -, -, -, -, hlimit, -⟩ := h.timing
  unfold State.farTurnedAway
  split
  · exact h.setEntry i ⟨Nat.zero_le 8, by dsimp only; omega, nofun, fun _ _ => rfl⟩
  · exact h.settleSilent i hx

theorem takeMatching (h : s.InRanges) (i : Nat) (hx : x.CountsInRange) (f : FrameRecord) :
    (s.takeMatching i x f).InRanges := by
  have key : ∀ y : Exchange, y.CountsInRange → ∀ t : State, t.InRanges →
      (if y.phase = .withdrawn then t.freeEntry i else t.actOnAnswer i y f).InRanges := fun y hy t ht => by
    split
    · exact ht.freeEntry i
    · unfold State.actOnAnswer
      split
      · exact ht.farTurnedAway i hy
      · exact ht.settle i hy _
  have hlevel := inRanges_blockRules.setLevel h.withdrawFrame x.key.addr
    (level := if f.kind = .absent then 8 else 1) (by split <;> omega) (by split <;> omega)
  unfold State.takeMatching
  dsimp only
  split
  · exact (key _ hx.lessAttempt _ hlevel).lineIdle
  · exact (key _ hx _ hlevel).lineIdle

theorem timeoutEffect (h : s.InRanges) (i : Nat) (hx : x.CountsInRange) (a : Nat) : (s.timeoutEffect i x a).InRanges := by
  have ht := inRanges_blockRules.advanceLevel (inRanges_blockRules.countStation h .timeouts x.key.addr) x.key.addr
  unfold State.timeoutEffect
  dsimp only
  split
  · exact (ht.freeEntry i).lineIdle
  · unfold State.afterTimeout
    split
    · next hlt =>
      have hn : x.attempts ≤ 7 := Nat.le_of_lt_succ (Nat.lt_of_lt_of_le hlt (State.attemptLimit_le ht.timing _))
      split
      · exact ht.sendAttempt i hx hn a
      · exact (ht.setEntry i (hx.queued hn)).lineIdle
    · exact (ht.settleSilent i hx).lineIdle

theorem waitedTimeout (h : s.InRanges) : s.waitedTimeout.InRanges := by
  rcases s.waitedTimeout_cases with he | ⟨i, a, x, -, hx, he⟩ <;> rw [he]
  · exact h
  · exact h.timeoutEffect i (h.entries i x hx) a

theorem replyExpiry (h : s.InRanges) : s.replyExpiry.InRanges := by
  unfold State.replyExpiry
  split
  case h_1 i a t hl =>
    split
    · exact h.setLine _
    · split
      · next x hx => exact h.timeoutEffect i (h.entries i x hx) a
      · exact h.lineIdle
  case h_2 => exact h
  case h_3 => exact h

theorem select (h : s.InRanges) : s.select.InRanges := by
  unfold State.select
  split
  · split
    · next i hp =>
      split
      · next x hx =>
        obtain ⟨-, -, hq, -⟩ := h.entries i x hx
        exact h.sendAttempt i (h.entries i x hx) (hq (State.isQueued_of_pick hp hx)) _
      · exact h
    · exact h
  · exact h

theorem reAskExpiry (h : s.InRanges) (i : Nat) : (s.reAskExpiry i).InRanges := by
  unfold State.reAskExpiry
  split
  · next x hx =>
    split
    · next t hp =>
      obtain ⟨-, -, -, hf⟩ := h.entries i x hx
      exact h.setEntry i ((h.entries i x hx).queued (by rw [hf t hp]; exact Nat.zero_le 7))
    all_goals exact h
  · exact h

theorem requestGone (h : s.InRanges) : s.requestGone.InRanges := by
  unfold State.requestGone
  split
  · split
    · split
      · exact (h.freeEntry _).lineIdle
      · exact h.setLine _
    · exact h.lineIdle
  · exact h
  · exact h

theorem admitInto (h : s.InRanges) (i : Nat) (f : FrameRecord) : (s.admitInto i f).InRanges := by
  have hset : ∀ disc cls, (s.setEntry i (newExchange f disc cls)).InRanges := fun disc cls =>
    h.setEntry i ⟨Nat.zero_le 8, Nat.zero_le 15, fun _ => Nat.zero_le 7, fun _ _ => rfl⟩
  unfold State.admitInto
  dsimp only
  split
  · exact ((hset _ _).setOrder _).setSpent _
  · exact inRanges_blockRules.countStation (((hset _ _).setOrder _).setSpent _) _ _

/-! ### Withdrawal, flush, clear, pause (R57, R61, R125, R133) -/

theorem dropWaitingWithdrawn (h : s.InRanges) : s.dropWaitingWithdrawn.InRanges := by
  rcases s.dropWaitingWithdrawn_cases with he | ⟨i, a, x, -, -, -, -, he⟩ <;> rw [he]
  · exact h
  · exact (h.withdrawFrame.freeEntry i).lineIdle

theorem flush (h : s.InRanges) (a : Nat) : (s.flush a).InRanges := by
  refine settleDSettings (dropWaitingWithdrawn (setOrder (setSpent (mapEntries h rfl fun x y hy hx => ?_) _) _))
  dsimp only at hy
  split at hy
  · exact hx.withdrawnOrFree hy
  · cases hy
    exact hx

theorem clearExchanges (h : s.InRanges) : s.clearExchanges.InRanges :=
  settleDSettings (dropWaitingWithdrawn
    (setOrder (setMode (setSpent (mapEntries h rfl fun _ _ hy hx => hx.withdrawnOrFree hy) _) _) _))

theorem pauseWithdraw (h : s.InRanges) : s.pauseWithdraw.InRanges := by
  unfold State.pauseWithdraw
  split
  · split
    · next x hx =>
      split
      · obtain ⟨ha, -⟩ := h.entries _ x hx
        exact (h.withdrawFrame.setEntry _ ((h.entries _ x hx).queued (by omega))).lineIdle
      · exact h
    · exact h
  · exact h
  · exact h

/-! ### Ports, time and reset -/

theorem endSending (h : s.InRanges) (p : Port) : (s.endSending p).InRanges :=
  inRanges_blockRules.countPort
    (h.updatePort p
      (g := fun q => { q with tx := .idle, receiver := q.receiver.abandon, assembler := .hunt, sinceLast := some 0 })
      fun _ hq => ⟨hq.counters, hq.live, hq.pendingCopy⟩)
    p .framesOut

theorem startSending (h : s.InRanges) (p : Port) : (s.updatePort p PortState.startSending).InRanges :=
  h.updatePort p fun q hq => by
    unfold PortState.startSending
    split
    · exact ⟨hq.counters, hq.live, hq.pendingCopy⟩
    all_goals exact hq

theorem hold (h : s.InRanges) : ({ s with u := s.u.hold, d := s.d.hold } : State).InRanges :=
  ⟨⟨h.u.counters, h.u.live, h.u.pendingCopy⟩, ⟨h.d.counters, h.d.live, h.d.pendingCopy⟩, h.stations, h.factors, h.timing,
    h.entries⟩

theorem tick (h : s.InRanges) : s.tick.InRanges := by
  have hx := h.mapEntries (g := Option.map Exchange.tick) rfl fun x y hy hx => by
    cases hy
    exact hx.tick
  exact ⟨⟨h.u.counters, h.u.live, h.u.pendingCopy⟩, ⟨h.d.counters, h.d.live, h.d.pendingCopy⟩, h.stations, h.factors,
    h.timing, hx.entries⟩

end State.InRanges

theorem Settings.afterReset_inRange (straps : Straps) : (Settings.afterReset straps).InRange := by
  have hd : 1 ≤ straps.divisor ∧ straps.divisor ≤ 1023 := by
    unfold Straps.divisor
    split <;> decide
  simpa [Settings.InRange, Settings.afterReset] using hd

/-- Record a after a reset (R87). -/
theorem State.stationAt_restarted (straps : Straps) (s : State) {a : Nat} (ha : isStation a = true) :
    (s.restarted straps).stationAt a = .afterReset straps.managementAddress a := by
  have hle := (isStation_iff a).1 ha
  simp [State.stationAt, ha, State.restarted, State.afterReset, show a - 1 < 126 by omega,
    show a - 1 + 1 = a by omega]

/-- Every entry is FREE after a reset (R63). -/
theorem State.entryAt_restarted (straps : Straps) (s : State) (i : Nat) : (s.restarted straps).entryAt i = none := by
  simp only [State.entryAt, State.restarted, State.afterReset, List.getD_eq_getElem?_getD, List.getElem?_replicate]
  split <;> rfl

/-- A reset leaves every block in range (R37, R87, R157, R168). -/
theorem State.restarted_inRanges (straps : Straps) (s : State) : (s.restarted straps).InRanges where
  u := ⟨fun c => by simp [State.restarted, PortState.restarted, PortState.afterReset],
    Settings.afterReset_inRange straps, Settings.afterReset_inRange straps⟩
  d := ⟨fun c => by simp [State.restarted, PortState.restarted, PortState.afterReset],
    Settings.afterReset_inRange straps, Settings.afterReset_inRange straps⟩
  stations a ha := by
    rw [s.stationAt_restarted straps ha]
    exact ⟨Nat.le_refl 1, Nat.le_of_ble_eq_true rfl, fun c => by simp [StationRecord.afterReset]⟩
  factors := by
    show ∀ x ∈ factorsAfterReset, x.level ≤ 3
    decide
  timing := by
    show Timing.afterReset.InRange
    unfold Timing.InRange
    decide
  entries i x hx := by
    rw [s.entryAt_restarted straps i] at hx
    cases hx

theorem State.inRanges_keptRules : KeptRules State.InRanges where
  toBlockRules := inRanges_blockRules
  hold h := h.hold
  restarted := State.restarted_inRanges
  tick h := h.tick
  storeD _ h _ := h.updatePort .d fun _ hq => ⟨hq.counters, hq.live, hq.pendingCopy⟩
  emptyDSlot h := h.updatePort .d fun _ hq => ⟨hq.counters, hq.live, hq.pendingCopy⟩
  startD h _ := h.startSending .d
  requestSent h _ := (h.endSending .d).requestGone
  writePendingD {_ payload} h hr :=
    (h.updatePort .d (g := fun q => { q with pendingCopy := .ofPayload payload, pendingFlag := true })
      fun _ hq => ⟨hq.counters, hq.live, hr⟩).setDue false
  dSettingsDue h := (h.setDue true).settleDSettings
  setRun h := h.setMode .run
  pauseFrom n h := (h.setMode (.paused n)).pauseWithdraw
  admitInto f h _ := h.admitInto _ f
  freeReady h _ _ := h.freeEntry _
  reAskExpiry i h := h.reAskExpiry i
  takeMatching {s f i x} h _ _ hx :=
    have hslot : s.emptyDSlot.InRanges := h.updatePort .d fun _ hq => ⟨hq.counters, hq.live, hq.pendingCopy⟩
    hslot.takeMatching i (h.entries i x hx) f
  waitedTimeout h := h.waitedTimeout
  replyExpiry h := h.replyExpiry
  select h := h.select
  flush a h := h.flush a
  clearExchanges h := h.clearExchanges

/-- Settles O55: the ranges are kept by every operation (`inRanges_keptRules`), and so by every step. -/
theorem everyStepKeepsTheRanges : Obligations.EveryStepKeepsTheRanges := by
  intro s t hs ht
  exact t.inRanges_iff.1 (State.inRanges_keptRules.of_step (s.inRanges_iff.2 hs) ht)

end Sys2Proof.Machine
end

section
/-! Every step keeps the order list, the entry on the line and the D transmitter in accord (O56). -/

namespace Sys2Proof.Machine

/-! ### The condition, taken apart

An operation may change an entry first and the line's state after it. So the table is held against a line state `l` of its own,
and the D transmitter against the line it was handed its frame on. -/

/-- An entry beside whether the order list holds its number and whether it is the one on the line. -/
def EntryPlaced (listed onLine : Prop) : Option Exchange → Prop
  | none => ¬ listed ∧ ¬ onLine
  | some x => (listed ↔ x.inOrder = true) ∧ (onLine ↔ x.holdsLine = true)

/-- The order list and the entries accord with line state `l`. -/
structure State.PlacedOn (l : Line) (s : State) : Prop where
  nodup : s.order.Nodup
  entry : ∀ i, EntryPlaced (i ∈ s.order) (l.entry = some i) (s.entryAt i)

/-- The table accords with line state `l`, and the D transmitter holds no frame. -/
structure State.Resting (l : Line) (s : State) : Prop extends s.PlacedOn l where
  tx : s.d.tx = .idle

/-- The table accords with the line, and so does the frame in the D transmitter. -/
structure State.LinePlaced (s : State) : Prop extends s.PlacedOn s.line where
  waiting : s.d.tx.isWaiting = true →
    s.mode = .run ∧ ∃ i a x, s.line = .sending i a ∧ s.entryAt i = some x ∧ x.phase = .onLine
  sending : ∀ f n, s.d.tx = .sending f n → s.d.slot = none ∧ ∃ i a, s.line = .sending i a

/-- The whole condition. -/
structure State.LineSound (s : State) : Prop extends s.LinePlaced where
  settled : s.line = .idle → ¬ (s.d.pendingFlag = true ∧ s.dChangeDue = true)

@[simp] theorem Line.entry_idle : Line.entry .idle = none := rfl
@[simp] theorem Line.entry_sending (i a : Nat) : (Line.sending i a).entry = some i := rfl
@[simp] theorem Line.entry_awaiting (i a t : Nat) : (Line.awaiting i a t).entry = some i := rfl

@[simp] theorem Line.entry_tick (l : Line) : l.tick.entry = l.entry := by
  cases l <;> rfl

/-- What holds the line is in the order list (R41, R42). -/
theorem Exchange.inOrder_of_holdsLine {x : Exchange} (h : x.holdsLine = true) : x.inOrder = true := by
  cases hp : x.phase <;> simp_all [Exchange.holdsLine, Exchange.inOrder]

theorem Exchange.holdsLine_iff (x : Exchange) : x.holdsLine = true ↔ x.phase = .onLine ∨ x.phase = .withdrawn := by
  simp [Exchange.holdsLine]

namespace State.PlacedOn

variable {s : State} {l k : Line} {i : Nat} {x : Exchange}

/-- The entry on the line is not FREE. -/
theorem exists_entry (h : s.PlacedOn l) (hl : l.entry = some i) : ∃ x, s.entryAt i = some x ∧ x.holdsLine = true := by
  have hi := h.entry i
  cases hx : s.entryAt i with
  | none => rw [hx] at hi; exact absurd hl hi.2
  | some x => rw [hx] at hi; exact ⟨x, rfl, hi.2.1 hl⟩

theorem inOrder_iff (h : s.PlacedOn l) (hx : s.entryAt i = some x) : i ∈ s.order ↔ x.inOrder = true := by
  have hi := h.entry i
  rw [hx] at hi
  exact hi.1

theorem onLine_iff (h : s.PlacedOn l) (hx : s.entryAt i = some x) : l.entry = some i ↔ x.holdsLine = true := by
  have hi := h.entry i
  rw [hx] at hi
  exact hi.2

theorem not_mem_order (h : s.PlacedOn l) (hx : s.entryAt i = none) : i ∉ s.order := by
  have hi := h.entry i
  rw [hx] at hi
  exact hi.1

theorem not_onLine (h : s.PlacedOn l) (hx : s.entryAt i = none) : l.entry ≠ some i := by
  have hi := h.entry i
  rw [hx] at hi
  exact hi.2

/-- With an IDLE line and nothing in the transmitter the line is free (R36). -/
theorem lineFree (h : s.PlacedOn .idle) (htx : s.d.tx = .idle) : s.lineFree = true := by
  refine s.lineIsFree_iff.1 ⟨fun i x hx => ?_, htx⟩
  have := mt (h.onLine_iff hx).2 nofun
  rwa [Exchange.holdsLine_iff, not_or] at this

theorem of_entry (h : s.PlacedOn l) (hk : k.entry = l.entry) : s.PlacedOn k :=
  ⟨h.nodup, fun i => hk ▸ h.entry i⟩

theorem same {t : State} (h : s.PlacedOn l) (he : t.entries = s.entries) (ho : t.order = s.order) : t.PlacedOn l :=
  ⟨ho ▸ h.nodup, fun i => by simpa only [State.entryAt, he, ho] using h.entry i⟩

/-- Entry i is written, and stays in the order list or out of it; the line state changes for it alone. -/
theorem setEntry {y : Exchange} (h : s.PlacedOn l) (hx : s.entryAt i = some x) (hin : y.inOrder = x.inOrder)
    (hy : k.entry = some i ↔ y.holdsLine = true) (hk : ∀ j, j ≠ i → (k.entry = some j ↔ l.entry = some j)) :
    (s.setEntry i y).PlacedOn k where
  nodup := h.nodup
  entry j := by
    rw [s.entryAt_setEntry i j y (s.lt_of_entryAt i x hx)]
    split
    · next hj =>
      subst hj
      exact ⟨by rw [hin]; exact h.inOrder_iff hx, hy⟩
    · next hj => exact propext (hk j hj) ▸ h.entry j

/-- Entry i leaves the order list and the line, FREE or READY. -/
theorem unplace {t : State} (h : s.PlacedOn l) (ho : t.order = s.order.filter (· ≠ i))
    (hi : t.entryAt i = none ∨ ∃ y, t.entryAt i = some y ∧ y.inOrder = false) (he : ∀ j, j ≠ i → t.entryAt j = s.entryAt j)
    (hki : k.entry ≠ some i) (hk : ∀ j, j ≠ i → (k.entry = some j ↔ l.entry = some j)) : t.PlacedOn k where
  nodup := ho ▸ h.nodup.filter _
  entry j := by
    by_cases hj : j = i
    · subst hj
      have hout : j ∉ t.order := by simp [ho]
      rcases hi with hn | ⟨y, hy, hin⟩
      · rw [hn]
        exact ⟨hout, hki⟩
      · rw [hy]
        have hline : y.holdsLine ≠ true := fun hc => by
          rw [Exchange.inOrder_of_holdsLine hc] at hin
          cases hin
        exact ⟨iff_of_false hout (by simp [hin]), iff_of_false hki hline⟩
    · rw [he j hj, propext (hk j hj), ho]
      simpa [hj] using h.entry j

theorem freeEntry (h : s.PlacedOn l) (hki : k.entry ≠ some i)
    (hk : ∀ j, j ≠ i → (k.entry = some j ↔ l.entry = some j)) : (s.freeEntry i).PlacedOn k :=
  h.unplace rfl (.inl (by simp [s.entryAt_freeEntry])) (fun j hj => by simp [s.entryAt_freeEntry, hj]) hki hk

/-- A READY entry becomes FREE. -/
theorem freeReady (h : s.PlacedOn l) {o : HeldOutcome} {t : Nat} (hx : s.entryAt i = some x) (hp : x.phase = .ready o t) :
    (s.freeEntry i).PlacedOn l :=
  h.freeEntry (fun hl => by simpa [Exchange.holdsLine, hp] using (h.onLine_iff hx).1 hl) fun _ _ => Iff.rfl

/-- A FREE entry takes a request and joins the tail of the order list (R43). -/
theorem enqueue (h : s.PlacedOn l) (hi : i < s.entries.length) (hfree : s.entryAt i = none) (f : FrameRecord) (disc : Bool)
    (cls : Nat) : ({ s.setEntry i (newExchange f disc cls) with order := s.order ++ [i] } : State).PlacedOn l where
  nodup := List.nodup_append.2 ⟨h.nodup, List.nodup_singleton i, fun a ha b hb => by
    rw [List.mem_singleton.1 hb]
    rintro rfl
    exact h.not_mem_order hfree ha⟩
  entry j := by
    show EntryPlaced (j ∈ s.order ++ [i]) _ ((s.setEntry i (newExchange f disc cls)).entryAt j)
    rw [s.entryAt_setEntry i j _ hi]
    split
    · next hj =>
      subst hj
      exact ⟨iff_of_true (by simp) rfl, iff_of_false (h.not_onLine hfree) Bool.false_ne_true⟩
    · next hj => simpa [hj] using h.entry j

/-- Every entry changes, and each either keeps its place or, not holding the line, becomes FREE and leaves the order list. -/
theorem mapEntries (h : s.PlacedOn l) {t : State} {g : Option Exchange → Option Exchange} (hnone : g none = none)
    (hg : ∀ x, (g (some x) = none ∧ x.holdsLine = false) ∨
      ∃ y, g (some x) = some y ∧ y.inOrder = x.inOrder ∧ y.holdsLine = x.holdsLine)
    (he : t.entries = s.entries.map g) (ho : t.order = s.order.filter fun i => (t.entryAt i).isSome) : t.PlacedOn l where
  nodup := ho ▸ h.nodup.filter _
  entry i := by
    have hi : t.entryAt i = g (s.entryAt i) := by rw [State.entryAt, he]; exact s.entryAt_map g hnone i
    cases hx : s.entryAt i with
    | none =>
      rw [hi, hx, hnone]
      exact ⟨by simp [ho, hi, hx, hnone], h.not_onLine hx⟩
    | some x =>
      rcases hg x with ⟨hgx, hline⟩ | ⟨y, hgx, hin, hline⟩
      · rw [hi, hx, hgx]
        exact ⟨by simp [ho, hi, hx, hgx], by simp [h.onLine_iff hx, hline]⟩
      · rw [hi, hx, hgx]
        exact ⟨by simp [ho, hi, hx, hgx, h.inOrder_iff hx, hin], by rw [hline]; exact h.onLine_iff hx⟩

/-- Every entry changes and keeps its place. -/
theorem mapInPlace (h : s.PlacedOn l) {t : State} {g : Exchange → Exchange}
    (hg : ∀ x, (g x).inOrder = x.inOrder ∧ (g x).holdsLine = x.holdsLine) (he : t.entries = s.entries.map (Option.map g))
    (ho : t.order = s.order) : t.PlacedOn l where
  nodup := ho ▸ h.nodup
  entry i := by
    have hi : t.entryAt i = (s.entryAt i).map g := by rw [State.entryAt, he]; exact s.entryAt_map _ rfl i
    have hs := h.entry i
    rw [hi, ho]
    cases hx : s.entryAt i with
    | none => rwa [hx] at hs
    | some x =>
      rw [hx] at hs
      exact ⟨by rw [(hg x).1]; exact hs.1, by rw [(hg x).2]; exact hs.2⟩

end State.PlacedOn

theorem Exchange.tick_inPlace (x : Exchange) : x.tick.inOrder = x.inOrder ∧ x.tick.holdsLine = x.holdsLine := by
  cases hp : x.phase <;> simp [Exchange.tick, Exchange.inOrder, Exchange.holdsLine, hp] <;> rfl

/-- A withdrawal leaves an entry that holds the line in its place, and frees any other (R57, R61). -/
theorem Exchange.withdrawnOrFree_inPlace (x : Exchange) :
    (x.withdrawnOrFree = none ∧ x.holdsLine = false) ∨
      ∃ y, x.withdrawnOrFree = some y ∧ y.inOrder = x.inOrder ∧ y.holdsLine = x.holdsLine := by
  unfold Exchange.withdrawnOrFree
  split
  · next h => exact .inr ⟨_, rfl, (Exchange.inOrder_of_holdsLine h).symm, h.symm⟩
  · next h => exact .inl ⟨rfl, by simpa using h⟩

/-! ### From the parts to the whole -/

theorem State.LinePlaced.tx_eq_idle {s : State} (h : s.LinePlaced) (hl : ∀ i a, s.line ≠ .sending i a) :
    s.d.tx = .idle := by
  cases htx : s.d.tx with
  | idle => rfl
  | waiting f =>
    obtain ⟨-, i, a, -, hs, -⟩ := h.waiting (by simp [htx, Transmitter.isWaiting])
    exact absurd hs (hl i a)
  | sending f n =>
    obtain ⟨-, i, a, hs⟩ := h.sending f n htx
    exact absurd hs (hl i a)

theorem State.LinePlaced.resting {s : State} (h : s.LinePlaced) (hl : ∀ i a, s.line ≠ .sending i a) :
    s.Resting s.line :=
  ⟨h.toPlacedOn, h.tx_eq_idle hl⟩

/-- D settings that waited are live, or the line is not free, once they have been settled (R36). -/
theorem State.not_due_settleDSettings (s : State) :
    ¬ (s.settleDSettings.d.pendingFlag = true ∧ s.settleDSettings.dChangeDue = true ∧
      s.settleDSettings.lineFree = true) := by
  unfold State.settleDSettings
  split
  · simp [PortState.applyPending]
  · next h => simpa [and_assoc] using h

theorem State.LinePlaced.settle {s : State} (h : s.LinePlaced) : s.settleDSettings.LineSound where
  toPlacedOn := by simpa using h.toPlacedOn.same (t := s.settleDSettings) (by simp) (by simp)
  waiting hw := by simpa using h.waiting (by simpa using hw)
  sending f n hs := by simpa using h.sending f n (by simpa using hs)
  settled hl hdue := by
    have hl' : s.line = .idle := by simpa using hl
    have htx := h.tx_eq_idle fun i a => by rw [hl']; nofun
    have hfree : s.settleDSettings.lineFree = true :=
      ((hl' ▸ h.toPlacedOn).same (t := s.settleDSettings) (by simp) (by simp)).lineFree (by simpa using htx)
    exact s.not_due_settleDSettings ⟨hdue.1, hdue.2, hfree⟩

theorem State.Resting.linePlaced {s : State} (h : s.Resting s.line) : s.LinePlaced where
  toPlacedOn := h.toPlacedOn
  waiting hw := by simp [h.tx, Transmitter.isWaiting] at hw
  sending f n hs := by simp [h.tx] at hs

theorem State.Resting.sound {s : State} (h : s.Resting s.line) (hl : s.line ≠ .idle) : s.LineSound where
  toLinePlaced := h.linePlaced
  settled hi := absurd hi hl

theorem State.Resting.setLine {s : State} {l k : Line} (h : s.Resting l) (hk : k.entry = l.entry) :
    ({ s with line := k } : State).Resting k where
  toPlacedOn := (h.toPlacedOn.of_entry hk).same rfl rfl
  tx := h.tx

theorem State.Resting.lineIdle {s : State} (h : s.Resting .idle) : s.lineIdle.LineSound :=
  (h.setLine rfl).linePlaced.settle

/-- The condition is what the statement says: with nothing on the line and in the transmitter, the line is free. -/
theorem State.lineSound_iff (s : State) :
    s.LineSound ↔ s.OrderExact ∧ s.LineExact ∧ s.DPortExact ∧ s.NoStartWhilePaused := by
  constructor
  · intro h
    have hx : ∀ i, EntryPlaced (i ∈ s.order) (s.line.entry = some i) (s.entryAt i) := h.entry
    refine ⟨⟨h.nodup, fun i => ?_⟩, fun i => ?_, ⟨fun htx => ?_, fun f n hs => (h.sending f n hs).1, ?_⟩, h.waiting⟩
    · have hi := hx i
      cases he : s.entryAt i <;> simp_all [EntryPlaced]
    · have hi := hx i
      cases he : s.entryAt i <;> simp_all [EntryPlaced]
    · by_contra hc
      exact htx (h.tx_eq_idle fun i a hs => hc ⟨i, a, hs⟩)
    · rintro ⟨hp, hdue, hfree⟩
      obtain ⟨hno, -⟩ := s.lineIsFree_iff.2 hfree
      refine h.settled ?_ ⟨hp, hdue⟩
      have hnone : ∀ i, s.line.entry ≠ some i := fun i hl => by
        obtain ⟨x, he, hline⟩ := h.toPlacedOn.exists_entry hl
        exact ((Exchange.holdsLine_iff x).1 hline).elim (hno i x he).1 (hno i x he).2
      cases hl : s.line with
      | idle => rfl
      | sending i a => exact absurd (by rw [hl]; rfl) (hnone i)
      | awaiting i a t => exact absurd (by rw [hl]; rfl) (hnone i)
  · rintro ⟨⟨hnodup, horder⟩, hline, ⟨htx, hslot, hfree⟩, hwait⟩
    have hplaced : s.PlacedOn s.line := ⟨hnodup, fun i => by
      have ho := horder i
      have hl := hline i
      cases he : s.entryAt i <;> simp_all [EntryPlaced]⟩
    refine ⟨⟨hplaced, hwait, fun f n hs => ⟨hslot f n hs, htx (by simp [hs])⟩⟩, fun hidle hdue => ?_⟩
    refine hfree ⟨hdue.1, hdue.2, (hidle ▸ hplaced).lineFree ?_⟩
    by_contra hc
    obtain ⟨i, a, hs⟩ := htx hc
    cases hidle.symm.trans hs

/-! ### Changes of other blocks -/

/-- A change that leaves the Exchange Table, the line, the mode and what the D port sends is of no account to the condition. -/
theorem State.LineSound.same {s t : State} (h : s.LineSound) (he : t.entries = s.entries) (ho : t.order = s.order)
    (hl : t.line = s.line) (hm : t.mode = s.mode) (hc : t.dChangeDue = s.dChangeDue) (htx : t.d.tx = s.d.tx)
    (hs : t.d.slot = s.d.slot) (hp : t.d.pendingFlag = s.d.pendingFlag) : t.LineSound where
  toPlacedOn := hl ▸ h.toPlacedOn.same he ho
  waiting := by simpa only [State.entryAt, he, hl, hm, htx] using h.waiting
  sending := by simpa only [hl, htx, hs] using h.sending
  settled := by simpa only [hl, hp, hc] using h.settled

theorem State.LineSound.updatePort {s : State} (h : s.LineSound) (p : Port) {g : PortState → PortState}
    (hg : ∀ q, (g q).tx = q.tx ∧ (g q).slot = q.slot ∧ (g q).pendingFlag = q.pendingFlag) :
    (s.updatePort p g).LineSound := by
  cases p with
  | u => exact h.same rfl rfl rfl rfl rfl rfl rfl rfl
  | d => exact h.same rfl rfl rfl rfl rfl (hg s.d).1 (hg s.d).2.1 (hg s.d).2.2

theorem State.lineSound_blockRules : BlockRules State.LineSound where
  unread h he := by
    rw [he]
    exact h.same rfl rfl rfl rfl rfl rfl rfl rfl
  receive p g h hg := h.updatePort p fun q => by
    rw [hg q]
    exact ⟨rfl, rfl, rfl⟩
  counters p _ h _ := h.updatePort p fun _ => ⟨rfl, rfl, rfl⟩
  updateU h _ := h.same rfl rfl rfl rfl rfl rfl rfl rfl
  setFactors h _ := h.same rfl rfl rfl rfl rfl rfl rfl rfl
  updateStation a _ h _ := h.same (by simp) (by simp) (by simp) (by simp) (by simp) (by simp) (by simp) (by simp)
  setTiming h _ := h.same rfl rfl rfl rfl rfl rfl rfl rfl

theorem State.Resting.same {s t : State} {l : Line} (h : s.Resting l) (he : t.entries = s.entries)
    (ho : t.order = s.order) (htx : t.d.tx = s.d.tx) : t.Resting l :=
  ⟨h.toPlacedOn.same he ho, htx.trans h.tx⟩

theorem State.resting_blockRules (l : Line) : BlockRules (State.Resting l) where
  unread h he := by
    rw [he]
    exact h.same rfl rfl rfl
  receive p g h hg := by
    cases p with
    | u => exact h.same rfl rfl rfl
    | d => exact h.same rfl rfl (by rw [State.updatePort_d_d, hg])
  counters p _ h _ := by cases p <;> exact h.same rfl rfl rfl
  updateU h _ := h.same rfl rfl rfl
  setFactors h _ := h.same rfl rfl rfl
  updateStation a _ h _ := h.same (by simp) (by simp) (by simp)
  setTiming h _ := h.same rfl rfl rfl

/-! ### An attempt and its end (R44 to R47, R117, R121 to R129) -/

namespace State.Resting

variable {s : State} {l : Line} {i : Nat} {x : Exchange}

/-- A QUEUED entry, or the one on the line, is sent once more (R117, R129). -/
theorem sendAttempt (h : s.Resting l) (hx : s.entryAt i = some x) (hin : x.inOrder = true)
    (hl : ∀ j, j ≠ i → l.entry ≠ some j) (hm : s.mode = .run) (a : Nat) : (s.sendAttempt i x a).LineSound where
  toPlacedOn := by
    have hset : (s.setEntry i { x with phase := .onLine, attempts := x.attempts + 1 }).PlacedOn (.sending i a) :=
      h.toPlacedOn.setEntry hx hin.symm (iff_of_true rfl rfl) fun j hj =>
        iff_of_false (fun he => hj (Option.some.inj he).symm) (hl j hj)
    exact hset.same rfl rfl
  waiting _ := by
    refine ⟨hm, i, a, { x with phase := .onLine, attempts := x.attempts + 1 }, rfl, ?_, rfl⟩
    exact (s.entryAt_setEntry i i _ (s.lt_of_entryAt i x hx)).trans (if_pos rfl)
  sending := nofun
  settled := nofun

/-- The entry on the line leaves it for a phase of the order list, and the line is IDLE. -/
theorem setEntry {y : Exchange} (h : s.Resting l) (hl : l.entry = some i) (hx : s.entryAt i = some x)
    (hin : y.inOrder = true) (hline : y.holdsLine = false) : (s.setEntry i y).Resting .idle where
  toPlacedOn := by
    have hxin := Exchange.inOrder_of_holdsLine ((h.toPlacedOn.onLine_iff hx).1 hl)
    refine h.toPlacedOn.setEntry hx (hin.trans hxin.symm) (iff_of_false nofun (by simp [hline])) fun j hj => ?_
    exact iff_of_false nofun fun he => hj (Option.some.inj (he.symm.trans hl))
  tx := h.tx

/-- The entry on the line leaves it and the order list. -/
theorem unplace {t : State} (h : s.Resting l) (hl : l.entry = some i) (ho : t.order = s.order.filter (· ≠ i))
    (hi : t.entryAt i = none ∨ ∃ y, t.entryAt i = some y ∧ y.inOrder = false) (he : ∀ j, j ≠ i → t.entryAt j = s.entryAt j)
    (htx : t.d.tx = s.d.tx) : t.Resting .idle where
  toPlacedOn := h.toPlacedOn.unplace ho hi he nofun fun _ hj =>
    iff_of_false nofun fun hj' => hj (Option.some.inj (hj'.symm.trans hl))
  tx := htx.trans h.tx

theorem freeEntry (h : s.Resting l) (hl : l.entry = some i) : (s.freeEntry i).Resting .idle :=
  h.unplace hl rfl (.inl (by simp [s.entryAt_freeEntry])) (fun j hj => by simp [s.entryAt_freeEntry, hj]) rfl

theorem settleReady (h : s.Resting l) (hl : l.entry = some i) (x : Exchange) (o : HeldOutcome) :
    (s.settleReady i x o).Resting .idle := by
  obtain ⟨y, hy, -⟩ := h.toPlacedOn.exists_entry hl
  have he := fun j z => s.entryAt_setEntry i j z (s.lt_of_entryAt i y hy)
  exact h.unplace hl rfl (.inr ⟨_, (he i _).trans (if_pos rfl), rfl⟩) (fun j hj => (he j _).trans (if_neg hj)) rfl

theorem settle (h : s.Resting l) (hl : l.entry = some i) (x : Exchange) (o : HeldOutcome) :
    (s.settle i x o).Resting .idle := by
  have hlearn : (if x.discovery && o.kind.teaches then s.learnDownstream x.key.addr else s).Resting l := by
    split
    · exact (resting_blockRules l).learnDownstream h _
    · exact h
  have hb := resting_blockRules .idle
  unfold State.settle
  dsimp only
  split
  · have hfree := hlearn.freeEntry hl
    unfold State.settlePosted
    dsimp only
    split
    · exact hfree
    · exact hb.raise (hb.countStation hfree _ _) _
  · exact hlearn.settleReady hl x o

theorem settleSilent (h : s.Resting l) (hl : l.entry = some i) (x : Exchange) : (s.settleSilent i x).Resting .idle :=
  settle ((resting_blockRules l).countStation h _ _) hl x _

theorem actOnAnswer (h : s.Resting l) (hl : l.entry = some i) (x : Exchange) (f : FrameRecord) :
    (s.actOnAnswer i x f).Resting .idle := by
  obtain ⟨y, hy, -⟩ := h.toPlacedOn.exists_entry hl
  unfold State.actOnAnswer State.farTurnedAway
  split
  · split
    · exact h.setEntry hl hy rfl rfl
    · exact h.settleSilent hl x
  · exact h.settle hl x _

theorem timeoutEffect (h : s.Resting l) (hl : l.entry = some i) (hx : s.entryAt i = some x) (a : Nat) :
    (s.timeoutEffect i x a).LineSound := by
  have hb := resting_blockRules l
  have ht := hb.advanceLevel (hb.countStation h .timeouts x.key.addr) x.key.addr
  have hxt : ((s.countStation .timeouts x.key.addr).advanceLevel x.key.addr).entryAt i = some x := by
    simpa [State.entryAt] using hx
  unfold State.timeoutEffect
  dsimp only
  split
  · exact (ht.freeEntry hl).lineIdle
  · unfold State.afterTimeout
    split
    · split
      · next hm =>
        have hin := Exchange.inOrder_of_holdsLine ((h.toPlacedOn.onLine_iff hx).1 hl)
        exact ht.sendAttempt hxt hin (fun _ hj hj' => hj (Option.some.inj (hj'.symm.trans hl))) hm a
      · exact (ht.setEntry hl hxt rfl rfl).lineIdle
    · exact (ht.settleSilent hl x).lineIdle

end State.Resting

namespace State.LineSound

variable {s : State}

theorem withdrawFrame_resting (h : s.PlacedOn s.line) (hs : ∀ f n, s.d.tx ≠ .sending f n) :
    s.withdrawFrame.Resting s.line where
  toPlacedOn := h.same (by simp) (by simp)
  tx := by
    unfold State.withdrawFrame
    cases htx : s.d.tx with
    | idle => simp [Transmitter.isWaiting, htx]
    | waiting f => simp [Transmitter.isWaiting]
    | sending f n => exact absurd htx (hs f n)

theorem takeMatching (h : s.LineSound) {f : FrameRecord} {i : Nat} (hf : s.d.slot = some f)
    (hl : s.line.entry = some i) (x : Exchange) : (s.emptyDSlot.takeMatching i x f).LineSound := by
  have hrest : s.emptyDSlot.withdrawFrame.Resting s.line :=
    withdrawFrame_resting (s := s.emptyDSlot) (h.toPlacedOn.same rfl rfl) fun g n hs => by
      obtain ⟨hslot, -⟩ := h.sending g n hs
      cases hf.symm.trans hslot
  have key : ∀ (y : Exchange) (t : State), t.Resting s.line →
      (if y.phase = .withdrawn then t.freeEntry i else t.actOnAnswer i y f).Resting .idle := fun y t ht => by
    split
    · exact ht.freeEntry hl
    · exact ht.actOnAnswer hl y f
  have hlevel := (resting_blockRules s.line).setLevel hrest x.key.addr
    (level := if f.kind = .absent then 8 else 1) (by split <;> omega) (by split <;> omega)
  unfold State.takeMatching
  dsimp only
  split
  · exact (key _ _ hlevel).lineIdle
  · exact (key _ _ hlevel).lineIdle

theorem waitedTimeout (h : s.LineSound) : s.waitedTimeout.LineSound := by
  rcases s.waitedTimeout_cases with he | ⟨i, a, x, hl, hx, he⟩ <;> rw [he]
  · exact h
  · exact (h.resting (by simp [hl])).timeoutEffect (by simp [hl]) hx a

theorem replyExpiry (h : s.LineSound) : s.replyExpiry.LineSound := by
  unfold State.replyExpiry
  split
  case h_1 i a t hl =>
    have hrest := h.resting (by simp [hl])
    have hon : s.line.entry = some i := by simp [hl]
    split
    · exact (hrest.setLine (k := .awaiting i a 0) hon.symm).sound nofun
    · split
      · next x hx => exact hrest.timeoutEffect hon hx a
      · next hx => exact absurd hon (h.toPlacedOn.not_onLine hx)
  case h_2 => exact h
  case h_3 => exact h

theorem select (h : s.LineSound) : s.select.LineSound := by
  unfold State.select
  split
  · next hm =>
    simp only [State.maySelect, Bool.and_eq_true, beq_iff_eq] at hm
    obtain ⟨⟨-, hmode⟩, hidle⟩ := hm
    split
    · next i hp =>
      split
      · next x hx =>
        have hin : x.inOrder = true := by simp [Exchange.inOrder, State.isQueued_of_pick hp hx]
        exact (h.resting (by simp [hidle])).sendAttempt hx hin (by simp [hidle]) hmode _
      · exact h
    · exact h
  · exact h

theorem reAskExpiry (h : s.LineSound) (i : Nat) : (s.reAskExpiry i).LineSound := by
  unfold State.reAskExpiry
  split
  · next x hx =>
    split
    · next t hp =>
      have hoff : s.line.entry ≠ some i := fun hl => by
        simpa [Exchange.holdsLine, hp] using (h.toPlacedOn.onLine_iff hx).1 hl
      have hset : (s.setEntry i { x with phase := .queued }).PlacedOn s.line :=
        h.toPlacedOn.setEntry hx (by simp [Exchange.inOrder, hp]) (iff_of_false hoff nofun) fun _ _ => Iff.rfl
      refine ⟨⟨hset, fun hw => ?_, h.sending⟩, h.settled⟩
      obtain ⟨hm, j, a, y, hl, hy, hon⟩ := h.waiting hw
      have hji : j ≠ i := fun hji => hoff (by rw [hl, ← hji]; rfl)
      exact ⟨hm, j, a, y, hl, by rwa [s.entryAt_setEntry i j _ (s.lt_of_entryAt i x hx), if_neg hji], hon⟩
    all_goals exact h
  · exact h

theorem requestSent (h : s.LineSound) (hd : s.driverEnable .d = true) : (s.endSending .d).requestGone.LineSound := by
  have hline : ∃ i a, s.line = .sending i a := by
    cases htx : s.d.tx with
    | sending f n => exact (h.sending f n htx).2
    | idle => simp [State.driverEnable, htx, Transmitter.driverEnable] at hd
    | waiting f => simp [State.driverEnable, htx, Transmitter.driverEnable] at hd
  have hrest : (s.endSending .d).Resting s.line := by
    refine (resting_blockRules s.line).countPort ?_ .d .framesOut
    exact ⟨h.toPlacedOn.same rfl rfl, rfl⟩
  have heq : (s.endSending .d).line = s.line := by simp [State.endSending]
  obtain ⟨i, a, hl⟩ := hline
  have hon : s.line.entry = some i := by rw [hl]; rfl
  unfold State.requestGone
  rw [heq, hl]
  dsimp only
  split
  · split
    · exact (hrest.freeEntry hon).lineIdle
    · exact (hrest.setLine (k := .awaiting i a _) hon.symm).sound nofun
  · next hx => exact absurd hon (hrest.toPlacedOn.not_onLine hx)

theorem freeReady (h : s.LineSound) {i : Nat} {x : Exchange} {o : HeldOutcome} {t : Nat} (hx : s.entryAt i = some x)
    (hp : x.phase = .ready o t) : (s.freeEntry i).LineSound := by
  refine ⟨⟨h.toPlacedOn.freeReady hx hp, fun hw => ?_, h.sending⟩, h.settled⟩
  obtain ⟨hm, j, a, y, hl, hy, hon⟩ := h.waiting hw
  have hji : j ≠ i := by
    rintro rfl
    cases hx.symm.trans hy
    cases hp.symm.trans hon
  exact ⟨hm, j, a, y, hl, by rwa [s.entryAt_freeEntry, if_neg hji], hon⟩

theorem admitInto (h : s.LineSound) {i : Nat} (f : FrameRecord) (hi : s.freeIndex = some i) :
    (s.admitInto i f).LineSound := by
  obtain ⟨hlt, hfree, -⟩ := s.freeIndex_some i hi
  have hadd : ∀ disc cls, ({ s.setEntry i (newExchange f disc cls) with order := s.order ++ [i] } : State).LineSound :=
    fun disc cls => by
      refine ⟨⟨h.toPlacedOn.enqueue hlt hfree f disc cls, fun hw => ?_, h.sending⟩, h.settled⟩
      obtain ⟨hm, j, a, y, hl, hy, hon⟩ := h.waiting hw
      have hji : j ≠ i := by
        rintro rfl
        cases hfree.symm.trans hy
      exact ⟨hm, j, a, y, hl, (s.entryAt_setEntry i j _ hlt).trans ((if_neg hji).trans hy), hon⟩
  have hspent : ∀ disc cls, (State.removeSpent f.key
      { s.setEntry i (newExchange f disc cls) with order := s.order ++ [i] }).LineSound := fun disc cls =>
    lineSound_blockRules.unread (hadd disc cls) rfl
  unfold State.admitInto
  dsimp only
  split
  · exact hspent _ _
  · exact lineSound_blockRules.countStation (hspent _ _) _ _

/-! ### Withdrawal, flush, clear, pause (R57, R61, R125, R133) -/

/-- A frame that waits for the entry on the line is dropped if that entry is WITHDRAWN (R125). -/
theorem dropWaitingWithdrawn (hp : s.PlacedOn s.line)
    (hw : s.d.tx.isWaiting = true → s.mode = .run ∧ ∃ i a, s.line = .sending i a)
    (hs : ∀ f n, s.d.tx = .sending f n → s.d.slot = none ∧ ∃ i a, s.line = .sending i a) :
    s.dropWaitingWithdrawn.LinePlaced := by
  unfold State.dropWaitingWithdrawn
  split
  · next i a hl =>
    obtain ⟨x, hx, hline⟩ := hp.exists_entry (show s.line.entry = some i by rw [hl]; rfl)
    split
    · next hd =>
      simp only [Bool.and_eq_true] at hd
      have hrest := withdrawFrame_resting hp fun f n htx => by simp [htx, Transmitter.isWaiting] at hd
      exact (hrest.freeEntry (by rw [hl]; rfl)).lineIdle.toLinePlaced
    · next hd =>
      refine ⟨hp, fun hwait => ⟨(hw hwait).1, i, a, x, hl, hx, ?_⟩, hs⟩
      exact ((Exchange.holdsLine_iff x).1 hline).resolve_right fun hwd => hd (by simp [hwait, hx, hwd])
  all_goals
    next hl =>
    refine ⟨hp, fun hwait => ?_, hs⟩
    obtain ⟨-, i, a, hl'⟩ := hw hwait
    cases hl.symm.trans hl'

theorem flush (h : s.LineSound) (a : Nat) : (s.flush a).LineSound := by
  refine State.LinePlaced.settle (dropWaitingWithdrawn (h.toPlacedOn.mapEntries rfl (fun x => ?_) rfl rfl) (fun hw => ?_)
    h.sending)
  · dsimp only
    split
    · exact Exchange.withdrawnOrFree_inPlace x
    · exact .inr ⟨x, rfl, rfl, rfl⟩
  · obtain ⟨hm, i, b, -, hl, -⟩ := h.waiting hw
    exact ⟨hm, i, b, hl⟩

theorem clearExchanges (h : s.LineSound) : s.clearExchanges.LineSound := by
  refine State.LinePlaced.settle (dropWaitingWithdrawn
    (h.toPlacedOn.mapEntries rfl Exchange.withdrawnOrFree_inPlace rfl rfl) (fun hw => ?_) h.sending)
  obtain ⟨-, i, b, -, hl, -⟩ := h.waiting hw
  exact ⟨rfl, i, b, hl⟩

/-- In PAUSED no frame is left waiting: the one there was is withdrawn, or there was none (R133). -/
theorem pauseFrom (h : s.LineSound) (n : Nat) : (State.pauseWithdraw { s with mode := .paused n }).LineSound := by
  have hstay : s.d.tx.isWaiting = false → ({ s with mode := .paused n } : State).LineSound := fun hw =>
    ⟨⟨h.toPlacedOn.same rfl rfl, fun hw' => absurd (hw.symm.trans hw') nofun, h.sending⟩, h.settled⟩
  have hnot : (∀ i a, s.line ≠ .sending i a) → s.d.tx.isWaiting = false := fun hl => by
    rw [h.tx_eq_idle hl]; rfl
  unfold State.pauseWithdraw
  split
  · next i a hl =>
    have hon : s.line.entry = some i := by rw [show s.line = .sending i a from hl]; rfl
    split
    · next x hx =>
      split
      · next hc =>
        simp only [Bool.and_eq_true] at hc
        have hrest : (State.withdrawFrame { s with mode := .paused n }).Resting s.line :=
          withdrawFrame_resting (s := { s with mode := .paused n }) (h.toPlacedOn.same rfl rfl) fun f k htx => by
            have : s.d.tx.isWaiting = true := hc.1
            rw [show s.d.tx = .sending f k from htx] at this
            cases this
        exact (hrest.setEntry hon (by simpa [State.entryAt] using hx) rfl rfl).lineIdle
      · next hc =>
        refine hstay ?_
        by_contra hw
        obtain ⟨-, j, b, y, hl', hy, hphase⟩ := h.waiting (by simpa using hw)
        cases (show s.line = .sending i a from hl).symm.trans hl'
        cases hx.symm.trans hy
        exact hc (by simpa [hphase] using hw)
    · next hx => exact absurd hon (h.toPlacedOn.not_onLine hx)
  all_goals
    next hl => exact hstay (hnot fun i a hl' => by cases hl.symm.trans hl')

/-! ### The D port, time and reset -/

/-- The D transmitter takes no frame into the slot while it sends (R30). -/
theorem storeD (h : s.LineSound) (f : FrameRecord) (hd : s.deaf .d = false) :
    (s.updatePort .d fun q => { q with assembler := .hunt, slot := some f }).LineSound := by
  refine ⟨⟨h.toPlacedOn.same rfl rfl, h.waiting, fun g n hs => ?_⟩, h.settled⟩
  have hs' : s.d.tx = .sending g n := hs
  simp [State.deaf, State.driverEnable, hs', Transmitter.driverEnable] at hd

theorem startD (h : s.LineSound) (hs : s.d.slot = none) : (s.updatePort .d PortState.startSending).LineSound := by
  cases htx : s.d.tx with
  | waiting f =>
    obtain ⟨-, i, a, x, hl, -⟩ := h.waiting (by simp [htx, Transmitter.isWaiting])
    have he : PortState.startSending s.d = { s.d with tx := .sending f (frameTime s.d.live f) } := by
      simp [PortState.startSending, htx]
    refine ⟨⟨h.toPlacedOn.same rfl rfl, fun hw => ?_, fun _ _ _ => ?_⟩, fun hi => ?_⟩
    · rw [State.updatePort_d_d, he] at hw
      cases hw
    · rw [State.updatePort_d_d, he]
      exact ⟨hs, i, a, hl⟩
    · cases hl.symm.trans hi
  | _ =>
    have he : PortState.startSending s.d = s.d := by simp [PortState.startSending, htx]
    have hsame : s.updatePort .d PortState.startSending = s := by rw [State.updatePort, he]
    rwa [hsame]

theorem tick (h : s.LineSound) : s.tick.LineSound := by
  have hentry : ∀ i, s.tick.entryAt i = (s.entryAt i).map Exchange.tick := fun i => s.entryAt_map _ rfl i
  have hline : s.line.tick = .idle → s.line = .idle := fun hl => by
    cases hs : s.line with
    | idle => rfl
    | _ => rw [hs] at hl; cases hl
  have hplaced : s.tick.PlacedOn s.line := h.toPlacedOn.mapInPlace (g := Exchange.tick) Exchange.tick_inPlace rfl rfl
  refine ⟨⟨hplaced.of_entry (by simp [State.tick]), fun hw => ?_, fun f n hs => ?_⟩, fun hl => h.settled (hline hl)⟩
  · obtain ⟨hm, i, a, x, hl, hx, hon⟩ := h.waiting (by
      cases htx : s.d.tx <;> simp_all [State.tick, PortState.tick, Transmitter.isWaiting])
    refine ⟨by simp [State.tick, hm, Mode.tick], i, a, x.tick, by simp [State.tick, hl, Line.tick], by simp [hentry, hx], ?_⟩
    simp [Exchange.tick, hon]
  · cases htx : s.d.tx with
    | sending g k =>
      obtain ⟨hslot, i, a, hl⟩ := h.sending g k htx
      exact ⟨hslot, i, a, by simp [State.tick, hl, Line.tick]⟩
    | _ => simp [State.tick, PortState.tick, htx] at hs

end State.LineSound

/-- After a reset no entry is taken, the line is IDLE and the D transmitter holds no frame (R37, R63, R135). -/
theorem State.restarted_lineSound (straps : Straps) (s : State) : (s.restarted straps).LineSound where
  nodup := List.nodup_nil
  entry i := by
    rw [s.entryAt_restarted straps i]
    exact ⟨List.not_mem_nil, nofun⟩
  waiting := nofun
  sending := nofun
  settled _ h := absurd h.2 nofun

theorem State.lineSound_keptRules : KeptRules State.LineSound where
  toBlockRules := lineSound_blockRules
  hold h := ⟨⟨h.toPlacedOn.same rfl rfl, nofun, nofun⟩, h.settled⟩
  restarted := State.restarted_lineSound
  tick h := h.tick
  storeD f h hd := h.storeD f hd
  emptyDSlot h := ⟨⟨h.toPlacedOn.same rfl rfl, h.waiting, fun f n hs => ⟨rfl, (h.sending f n hs).2⟩⟩, h.settled⟩
  startD h hs := h.startD hs
  requestSent h hd := h.requestSent hd
  writePendingD h _ := ⟨⟨h.toPlacedOn.same rfl rfl, h.waiting, h.sending⟩, fun _ hdue => absurd hdue.2 nofun⟩
  dSettingsDue {s} h :=
    State.LinePlaced.settle (s := { s with dChangeDue := true }) ⟨h.toPlacedOn.same rfl rfl, h.waiting, h.sending⟩
  setRun h := ⟨⟨h.toPlacedOn.same rfl rfl, fun hw => ⟨rfl, (h.waiting hw).2⟩, h.sending⟩, h.settled⟩
  pauseFrom n h := h.pauseFrom n
  admitInto f h hi := h.admitInto f hi
  freeReady h hx hp := h.freeReady hx hp
  reAskExpiry i h := h.reAskExpiry i
  takeMatching h hf hl _ := h.takeMatching hf hl _
  waitedTimeout h := h.waitedTimeout
  replyExpiry h := h.replyExpiry
  select h := h.select
  flush a h := h.flush a
  clearExchanges h := h.clearExchanges

/-- Settles O56: the accord is kept by every operation (`lineSound_keptRules`), and so by every step. -/
theorem everyStepKeepsTheDownstreamLine : Obligations.EveryStepKeepsTheDownstreamLine := by
  intro s t hs ht
  exact t.lineSound_iff.1 (State.lineSound_keptRules.of_step (s.lineSound_iff.2 hs) ht)

end Sys2Proof.Machine
end

section
/-! What a reset does: RESET_N low (O5), RESET_END (O7), the full restart (O8), and the conditions the machine right after reset
meets (O60). -/

namespace Sys2Proof.Machine

/-! ### RESET_N low (R37) -/

theorem State.deaf_of_resetN_low {s : State} (h : s.pins.resetN = false) (p : Port) : s.deaf p = true := by
  simp [State.deaf, h]

/-- While RESET_N is low no frame is taken from the U slot. -/
theorem State.takeAs_of_resetN_low {s : State} (h : s.pins.resetN = false) (t : Taking)
    (decision : FrameRecord → State → State) : s.takeAs t decision = s := by
  simp [State.takeAs, State.takeable, h]

theorem State.takeStored_of_resetN_low {s : State} (h : s.pins.resetN = false) (p : Port) : s.takeStored p = s :=
  s.takeStored_of_nothingToTake p (.inl h)

theorem State.dTakeNow_of_resetN_low {s : State} (h : s.pins.resetN = false) : s.dTakeNow = s :=
  s.takeStored_of_resetN_low h .d

/-- While RESET_N is low, only RESET_N, its end and the lines' characters do anything (log 11). -/
theorem State.exec_of_resetN_low {s : State} (h : s.pins.resetN = false) {c : Instr} (hlow : c ≠ .resetNLow)
    (hend : ∀ straps, c ≠ .resetEnd straps) (hchar : ∀ p e, c ≠ .characterReceived p e) : exec c s = .next s := by
  have hs := s.takeStored_of_resetN_low h
  have hd := s.dTakeNow_of_resetN_low h
  cases c with
  | resetNLow => exact absurd rfl hlow
  | resetEnd straps => exact absurd rfl (hend straps)
  | characterReceived p e => exact absurd rfl (hchar p e)
  | gapLimitExpiry p => simp [exec, execGapLimitExpiry, hs, State.deaf_of_resetN_low h]
  | transmitStart p => simp [exec, execTransmitStart, hs, h]
  | frameSent p straps => simp [exec, execFrameSent, h]
  | deafPeriodEnd => simp [exec, execDeafPeriodEnd, h]
  | discoveryWindowExpiry => simp [exec, execDiscoveryWindowExpiry, h]
  | selection => simp [exec, execSelection, hd, State.select, State.maySelect, h]
  | dAnswerFrame => simp [exec, execDAnswerFrame, hd]
  | foreignRequest => simp [exec, execForeignRequest, hd]
  | replyTimeout => simp [exec, execReplyTimeout, h]
  | reAskExpiry i => simp [exec, execReAskExpiry, h]
  | collectionExpiry i => simp [exec, execCollectionExpiry, h]
  | pauseTimerExpiry => simp [exec, execPauseTimerExpiry, h]
  | ladderStep => simp [exec, execLadderStep, h]
  | _ => exact congrArg Host.Outcome.next (State.takeAs_of_resetN_low h _ _)

/-- Settles O5: what the ports then hold, and `exec_of_resetN_low`. -/
theorem resetHoldsThePartUntilItEnds : Obligations.ResetHoldsThePartUntilItEnds := by
  refine ⟨fun s => ⟨_, rfl, rfl, fun p => ⟨?_, ?_, State.deaf_of_resetN_low rfl p⟩⟩,
    fun s c h hlow hend hchar => State.exec_of_resetN_low h hlow hend hchar⟩
  · cases p <;> rfl
  · cases p <;> rfl

/-! ### RESET_END (R37, R70, R87) -/

theorem State.port_restarted (straps : Straps) (s : State) (p : Port) :
    (s.restarted straps).port p = (s.port p).restarted straps := by
  cases p <;> rfl

theorem divisor_of_straps (straps : Straps) :
    straps.divisor =
      (if straps.rate1 then (if straps.rate0 then 4 else 12) else (if straps.rate0 then 24 else 48)) := by
  obtain ⟨ma, disc, rate1, rate0⟩ := straps
  cases rate1 <;> cases rate0 <;> rfl

theorem managementAddress_of_straps (straps : Straps) :
    straps.managementAddress = (if straps.ma = 0 ∨ straps.ma = 127 then 126 else straps.ma.toNat) := by
  simp only [Straps.managementAddress, BitVec.toNat_eq]
  rfl

/-- The management address is a station's address (R70). -/
theorem isStation_managementAddress (straps : Straps) : isStation straps.managementAddress = true := by
  rw [isStation_iff, Straps.managementAddress]
  have := straps.ma.isLt
  split <;> omega

/-- Settles O7: the reset condition, field by field, with the records by `stationAt_restarted`. -/
theorem resetSetsEveryOtherBlock : Obligations.ResetSetsEveryOtherBlock := by
  refine ⟨rfl, fun straps s => ⟨s.restarted straps, rfl, rfl, rfl, s.port_restarted straps, divisor_of_straps straps,
    managementAddress_of_straps straps, fun a ha => s.stationAt_restarted straps ha, rfl, rfl, rfl, rfl, rfl, rfl, rfl, rfl, rfl,
    rfl, rfl, rfl⟩⟩

/-! ### The full restart (R38, R173) -/

/-- Of what was before, a reset leaves only whether a character is under way at a port, and the queue. -/
theorem State.restarted_congr {s t : State} (straps : Straps) (hu : t.u.receiver.abandon = s.u.receiver.abandon)
    (hd : t.d.receiver.abandon = s.d.receiver.abandon) (hp : t.pending = s.pending) :
    t.restarted straps = s.restarted straps := by
  simp only [State.restarted, PortState.restarted, hu, hd, hp]

/-- The end of a frame on the line is told to the port's owner (R29). -/
theorem State.exec_frameSent {s : State} {p : Port} {f : FrameRecord} {left : Nat} (straps : Straps)
    (hr : s.pins.resetN = true) (htx : (s.port p).tx = .sending f left) :
    exec (.frameSent p straps) s = .next ((s.endSending p).reportSent p straps) := by
  simp only [exec, execFrameSent, hr, State.driverEnable_of_sending htx, Bool.and_self, if_true]

@[simp] theorem State.endSending_handler (p : Port) (s : State) : (s.endSending p).handler = s.handler := by
  simp [State.endSending]

/-- Settles O8: the DONE's end resets the part as RESET_END does; deafness meets a line event as `exec_characterReceived` says. -/
theorem fullRestartAtTheEndOfItsDone : Obligations.FullRestartAtTheEndOfItsDone := by
  refine ⟨fun s straps f left hr htx hh => ⟨_, rfl, ?_⟩, fun s n hr hn => ⟨?_, fun p hs => ?_⟩⟩
  · have hsame : (s.endSending .u).restarted straps = s.restarted straps :=
      State.restarted_congr straps (s.u.receiver.abandon_abandon) rfl (by simp [State.endSending])
    rw [State.exec_frameSent (p := .u) straps hr htx, State.reportSent, State.answerGone, State.endSending_handler, hh]
    simp only [State.fullRestart, hsame]
  · simp [exec, execDeafPeriodEnd, hr, hn]
  · have hdeaf : s.deaf p = true := by simp [State.deaf, hn]
    have hnothing : s.NothingToTake p := .inr (.inl hs)
    refine ⟨?_, fun levels => ?_⟩
    · rw [s.exec_characterReceived p _ hnothing]
      simp [State.lineEvent, State.startEdge, hdeaf]
    · rw [s.exec_characterReceived p _ hnothing]
      simp [State.lineEvent, State.endCharacter, hdeaf]

/-! ### The conditions right after reset (R63, R70, R135, R147) -/

/-- The machine right after reset is as RESET_END leaves it with all straps low (log 6). -/
theorem State.reset_eq_restarted : State.reset = State.reset.restarted strapsAllLow := rfl

/-- Right after a reset a record is the management address's own, of side SELF, or UNKNOWN (R70, R87). -/
theorem State.stationTable_restarted (straps : Straps) (s : State) :
    (s.restarted straps).OneSelf ∧ (s.restarted straps).SelfAsReset ∧ (s.restarted straps).UnknownAliasOwn ∧
      (s.restarted straps).AliasesDistinct := by
  have hm := isStation_managementAddress straps
  refine ⟨⟨hm, fun a ha => ?_⟩, s.stationAt_restarted straps hm, fun a ha _ => ?_, fun a b c ha _ hc => ?_⟩
  · rw [s.stationAt_restarted straps ha]
    show (if a = straps.managementAddress then Side.self else .unknown) = .self ↔ a = straps.managementAddress
    split <;> simp_all
  · rw [s.stationAt_restarted straps ha]
    rfl
  · rw [s.stationAt_restarted straps ha] at hc
    simp only [StationRecord.holdsAlias, StationRecord.afterReset] at hc
    split at hc <;> simp at hc

/-- Right after a reset no exchange, no held request and no spent key is there to stand in the way of a condition (R63, R88). -/
theorem State.exchanges_restarted (straps : Straps) (s : State) :
    (s.restarted straps).SelfUntouched ∧ (s.restarted straps).LiveKeysDistinct ∧ (s.restarted straps).SpentExact ∧
      (s.restarted straps).LiveStationsReachable ∧ (s.restarted straps).AnsweringExact := by
  have hfree : ∀ i x, (s.restarted straps).entryAt i ≠ some x := fun i x hx => by
    rw [s.entryAt_restarted straps i] at hx
    cases hx
  refine ⟨⟨fun i x hx => absurd hx (hfree i x), nofun, nofun⟩, fun i _ x _ hx => absurd hx (hfree i x),
    ⟨Nat.zero_le _, List.nodup_nil, nofun⟩, ⟨fun i x hx => absurd hx (hfree i x), nofun⟩, fun _ => ?_⟩
  exact iff_of_false (fun h => h rfl) nofun

/-- Settles O60: a reset meets each condition that steps keep, and what it leaves in the tables meets the rest. -/
theorem resetMeetsEveryCondition : Obligations.ResetMeetsEveryCondition := by
  unfold Obligations.ResetMeetsEveryCondition
  rw [State.reset_eq_restarted]
  obtain ⟨hframes, -, hsized⟩ := (State.sound_iff _).1 (State.reset.restarted_sound strapsAllLow)
  obtain ⟨hone, hself, halias, hdistinct⟩ := State.reset.stationTable_restarted strapsAllLow
  obtain ⟨huntouched, hkeys, hspent, hlive, hanswering⟩ := State.reset.exchanges_restarted strapsAllLow
  obtain ⟨hlevels, hcounters, hfactors, hsettings, hattempts⟩ :=
    (State.inRanges_iff _).1 (State.reset.restarted_inRanges strapsAllLow)
  obtain ⟨horder, hline, hport, hstart⟩ := (State.lineSound_iff _).1 (State.reset.restarted_lineSound strapsAllLow)
  exact ⟨hsized, hone, huntouched, hself, halias, hdistinct, hlevels, hcounters, hfactors, hsettings, hattempts, horder,
    hline, hport, hstart, hkeys, hspent, hlive, hanswering, hframes⟩

end Sys2Proof.Machine
end

section
/-! Characters as they are sampled (O13), and frames as they are collected, ended and lost (O15, O16, O17). -/

namespace Sys2Proof.Machine

/-! ### Samples of a character (R17, R19, R20) -/

/-- Every sample inside bit k of bits sent one after another is at that bit's level (R18). -/
theorem sampleAt_flatMap_replicate (bits : List Bool) (k j : Nat) (hj : j < 16) :
    sampleAt (bits.flatMap fun bit => List.replicate 16 bit) (k * 16 + j) = bits.getD k true := by
  rw [sampleAt, List.getD_eq_getElem?_getD, getElem?_flatMap_of_length _ (fun _ => List.length_replicate) _ k j hj,
    List.getD_eq_getElem?_getD]
  cases bits[k]? with
  | none => rfl
  | some bit => exact congrArg (·.getD true) (List.getElem?_replicate_of_lt hj)

theorem sampleAt_flatMap_midSample (bits : List Bool) (k : Nat) :
    sampleAt (bits.flatMap fun bit => List.replicate 16 bit) (midSample k) = bits.getD k true := by
  rw [← sampleAt_flatMap_replicate bits k 8 (by decide), midSample, Config.samplesPerBit]
  congr 1
  omega

/-- The bits of a character of byte b at settings st, with a given parity bit where there is one and a given stop bit. -/
def bitsWith (st : Settings) (b : Byte) (parity stop : Bool) : List Bool :=
  [false] ++ (List.range 8).map (fun k => b.getLsbD k) ++ (if st.parity = .none then [] else [parity]) ++ [stop]

theorem getD_bitsWith_data (st : Settings) (b : Byte) (parity stop : Bool) {k : Nat} (hk : k < 8) :
    (bitsWith st b parity stop).getD (k + 1) true = b.getLsbD k := by
  rw [bitsWith, List.append_assoc, List.append_assoc, List.singleton_append, List.getD_cons_succ,
    List.getD_append _ _ _ _ (by simpa using hk)]
  simp [hk]

theorem getD_bitsWith_stop (st : Settings) (b : Byte) (parity stop : Bool) :
    (bitsWith st b parity stop).getD (if st.parity != .none then 10 else 9) true = stop := by
  by_cases hp : st.parity = .none <;> simp [bitsWith, hp]

theorem getD_bitsWith_parity {st : Settings} (hp : st.parity ≠ .none) (b : Byte) (parity stop : Bool) :
    (bitsWith st b parity stop).getD 9 true = parity := by
  simp [bitsWith, hp]

/-- A character is read as its byte; a wrong parity bit is a parity error, else a stop bit at space a framing error (R20). -/
theorem readCharacter_bitsWith (st : Settings) (b : Byte) (parity stop : Bool) :
    readCharacter st ((bitsWith st b parity stop).flatMap fun bit => List.replicate 16 bit) =
      some ⟨b, if st.parity ≠ .none ∧ parity ≠ parityBit st.parity b then some .parity
        else if stop then none else some .framing⟩ := by
  have hedge := sampleAt_flatMap_replicate (bitsWith st b parity stop) 0 0 (by decide)
  have hmid := sampleAt_flatMap_midSample (bitsWith st b parity stop)
  have hstart : (bitsWith st b parity stop).getD 0 true = false := rfl
  have hvalue := sampledByte_eq _ b fun k hk => (hmid (k + 1)).trans (getD_bitsWith_data st b parity stop hk)
  rw [Nat.zero_mul, Nat.zero_add] at hedge
  unfold readCharacter
  simp only [hedge, hmid, hstart, hvalue, getD_bitsWith_stop]
  by_cases hp : st.parity = .none
  · simp [hp]
  · rw [getD_bitsWith_parity hp]
    simp [hp]

/-- With its parity bit the ones of a character are even, or odd, as the setting asks (R17). -/
theorem ones_add_parityBit (b : Byte) :
    (ones b + (parityBit .even b).toNat) % 2 = 0 ∧ (ones b + (parityBit .odd b).toNat) % 2 = 1 := by
  rcases Nat.mod_two_eq_zero_or_one (ones b) with h | h <;> simp [parityBit, h, Nat.add_mod]

/-- Settles O13: a character by its samples (`readCharacter_bitsWith`), and what a deaf or missed one leaves. -/
theorem charactersAreReadAsSampledUnlessBegunUnheard : Obligations.CharactersAreReadAsSampledUnlessBegunUnheard := by
  refine ⟨fun st b _ => readCharacter_charSamples st b, readCharacter_bitsWith, ones_add_parityBit,
    fun st levels _ hmid => ?_, fun s p levels h => ⟨?_, fun hlost => ?_⟩⟩
  · have hstart : sampleAt levels (midSample 0) = true := hmid
    simp [readCharacter, hstart]
  · rw [s.exec_characterReceived p _ h]
    rfl
  · rw [s.exec_characterReceived p _ h]
    simp [State.lineEvent, State.endCharacter, hlost]

/-! ### A character heard (R21) -/

/-- What a port that hears does with the character that ends (R19). -/
theorem State.exec_samples {s : State} {p : Port} (h : s.Hears p) {levels : List Bool} {ch : RxChar}
    (hc : readCharacter (s.port p).live levels = some ch) :
    exec (.characterReceived p (.samples levels)) s = .next (s.deliverCharacter p ch) := by
  rw [s.exec_characterReceived p _ h.1.2, State.lineEvent, s.endCharacter_of_hears p _ h, hc]

/-- The counters of chapter 2 that go with the line error factor of their port (R32). -/
theorem portFactor_eq_lineErrorOf (p : Port) {c : PortCounter} (hin : c ≠ .framesIn) (hout : c ≠ .framesOut)
    (hu : c = .unexpected → p = .d) : portFactor p c = some (lineErrorOf p) := by
  cases p with
  | u => cases c <;> simp_all [portFactor, lineErrorOf]
  | d => cases c <;> simp_all [portFactor, lineErrorOf]

theorem State.countPort_eq_raise (s : State) (p : Port) {c : PortCounter} (hin : c ≠ .framesIn) (hout : c ≠ .framesOut)
    (hu : c = .unexpected → p = .d) :
    s.countPort p c = (s.updatePort p fun q => { q with counters := q.counters.bump c }).raise (lineErrorOf p) := by
  rw [State.countPort, portFactor_eq_lineErrorOf p hin hout hu]
  rfl

/-- Settles O15: the character delivered in HUNT is LEAD or a stray one. -/
theorem huntTakesOnlyACleanLead : Obligations.HuntTakesOnlyACleanLead := by
  intro s p levels h ha
  refine ⟨fun ch hc => ⟨fun hlead => ?_, fun hstray => ?_⟩, fun hnone => ?_⟩
  · obtain ⟨hvalue, herror⟩ := hlead
    rw [State.exec_samples h hc]
    simp [State.deliverCharacter, State.huntCharacter, ha, hvalue, herror, Config.lead, Settings.gapTime]
  · have hstray' : ¬ (ch.value = Config.lead ∧ ch.error = none) := hstray
    rw [State.exec_samples h hc]
    simp [State.deliverCharacter, State.huntCharacter, ha, hstray', State.countPort_eq_raise]
  · rw [s.exec_characterReceived p _ h.1.2, State.lineEvent, s.endCharacter_of_hears p _ h, hnone]

/-! ### A frame lost (R23 to R27, R99, R126) -/

/-- With no reply timer waiting for a frame's end, that end is nothing to the line (R126). -/
theorem State.waitedTimeout_eq_self {s : State} (h : ∀ i a, s.line ≠ .awaiting i a 0) : s.waitedTimeout = s := by
  rcases s.waitedTimeout_cases with he | ⟨i, a, x, hl, -⟩
  · exact he
  · exact absurd hl (h i a)

/-- A reply timer that waited for the frame takes effect as REPLY_TIMEOUT does (R126). -/
theorem State.exec_replyTimeout_waited {s : State} {i a : Nat} {x : Exchange} (hr : s.pins.resetN = true)
    (hs : s.d.slot = none) (ha : s.d.assembler = .hunt) (hl : s.line = .awaiting i a 0) (hx : s.entryAt i = some x) :
    exec .replyTimeout s = .next s.waitedTimeout := by
  have htake : s.dTakeNow = s := s.takeStored_of_nothingToTake .d (.inr (.inl hs))
  simp [exec, execReplyTimeout, hr, htake, State.replyExpiry, State.waitedTimeout, hl, ha, hx]

theorem State.resetN_of_not_deaf {s : State} {p : Port} (h : s.deaf p = false) : s.pins.resetN = true := by
  simp only [State.deaf, Bool.or_eq_false_iff, Bool.not_eq_false'] at h
  exact h.1.1

/-- A D port that listens has nothing in its slot (R26). -/
theorem State.Listens.d_slot {s : State} (h : s.Listens .d) : s.d.slot = none := by
  obtain ⟨hd, hr | hs | ⟨hu, -⟩⟩ := h
  · exact absurd (hr.symm.trans (State.resetN_of_not_deaf hd)) nofun
  · exact hs
  · cases hu

/-- A port that listens loses a frame as the statements say it (R23 to R27). -/
theorem State.Listens.frameLost {s : State} {p : Port} (h : s.Listens p) {c : PortCounter} (hin : c ≠ .framesIn)
    (hout : c ≠ .framesOut) (hu : c ≠ .unexpected) : FrameLost s (s.loseFrame p c) p c := by
  have heq : s.loseFrame p c = State.reportLost p ((s.updatePort p fun q =>
      { q with assembler := .hunt, counters := q.counters.bump c }).raise (lineErrorOf p)) := by
    rw [State.loseFrame, State.countPort_eq_raise _ p hin hout fun hc => absurd hc hu, State.updatePort_updatePort]
  unfold FrameLost
  rw [heq]
  cases p with
  | u =>
    refine ⟨fun f τ hw => ?_, fun hw => ?_⟩
    · simp [State.reportLost, hw, State.silence]
    · cases hh : s.handler with
      | window f τ => exact absurd hh (hw f τ)
      | _ => simp [State.reportLost, hh]
  | d =>
    refine ⟨fun hl => State.waitedTimeout_eq_self (by simpa using hl), fun i a x hl hx => ?_⟩
    exact State.exec_replyTimeout_waited (by simpa using State.resetN_of_not_deaf h.1) (by simpa using h.d_slot) rfl
      (by simpa using hl) (by simpa [State.entryAt] using hx)

/-! ### A character in COLLECT (R22, R23, R25) -/

/-- State s with a character just heard at port p (R28). -/
def State.heard (p : Port) (s : State) : State :=
  s.updatePort p fun q => { q with receiver := .looking, sinceLast := some 0 }

theorem State.Hears.heard {s : State} {p : Port} (h : s.Hears p) : (s.heard p).Listens p := by
  obtain ⟨⟨hdeaf, hnothing⟩, -⟩ := h
  refine ⟨by simpa [State.heard, State.deaf, State.driverEnable] using hdeaf, ?_⟩
  simpa [State.NothingToTake, State.heard] using hnothing

theorem State.deliverCharacter_collect {s : State} {p : Port} {before : List Byte} {spoiled : Option CharError} {gap : Nat}
    (ha : (s.port p).assembler = .collect before spoiled gap) (ch : RxChar) :
    s.deliverCharacter p ch = (s.heard p).collectCharacter p ch before spoiled := by
  simp [State.deliverCharacter, State.heard, ha]

section collecting

variable {s : State} {p : Port} {ch : RxChar} {before : List Byte} {spoiled : Option CharError}

/-- LEN above 64 ends the frame (R23). -/
theorem State.collectCharacter_oversize (h7 : (before ++ [ch.value]).length = 7)
    (hlen : 64 < byteAt (before ++ [ch.value]) 6) :
    s.collectCharacter p ch before spoiled = s.loseFrame p .oversize := by
  unfold State.collectCharacter
  exact if_pos ⟨h7, hlen⟩

/-- A character before the frame's last is collected (R22). -/
theorem State.collectCharacter_more
    (h : (before ++ [ch.value]).length < 7 ∨
      ((before ++ [ch.value]).length = 7 ∧ byteAt (before ++ [ch.value]) 6 ≤ 64) ∨
      (7 < (before ++ [ch.value]).length ∧ (before ++ [ch.value]).length < byteAt (before ++ [ch.value]) 6 + 9)) :
    s.collectCharacter p ch before spoiled = s.updatePort p fun q =>
      { q with assembler := .collect (before ++ [ch.value]) (spoiled.or ch.error) q.live.gapTime } := by
  unfold State.collectCharacter frameLength collectedLen
  dsimp only [Config.maxPayload]
  rw [if_neg (by omega), if_neg (by omega)]

/-- The frame's last character ends it (R22). -/
theorem State.collectCharacter_end (hlen : (before ++ [ch.value]).length = byteAt (before ++ [ch.value]) 6 + 9) :
    s.collectCharacter p ch before spoiled = s.endFrame p (before ++ [ch.value]) (spoiled.or ch.error) := by
  unfold State.collectCharacter frameLength collectedLen
  dsimp only
  rw [if_neg (by omega), if_pos (by omega)]

end collecting

/-- A frame that is discarded is lost under its counter (R25). -/
theorem State.endFrame_of_discard {s : State} {p : Port} {chars : List Byte} {e : Option CharError} {c : PortCounter}
    (h : judgeFrame chars e = .discard c) : s.endFrame p chars e = s.loseFrame p c := by
  rw [State.endFrame, h]

theorem State.endFrame_of_wellFormed {s : State} {p : Port} {chars : List Byte} {e : Option CharError} {f : FrameRecord}
    (h : judgeFrame chars e = .wellFormed f) : s.endFrame p chars e = s.storeFrame p f := by
  rw [State.endFrame, h]

/-- A well-formed frame that finds the slot full is dropped (R26). -/
theorem State.storeFrame_of_full {s : State} {p : Port} (hs : (s.port p).slot ≠ none) (f : FrameRecord) :
    s.storeFrame p f = s.loseFrame p .overrun :=
  if_pos (Option.isSome_iff_ne_none.2 hs)

/-- A well-formed frame is stored in an empty slot (R26). -/
theorem State.storeFrame_of_empty {s : State} {p : Port} (hs : (s.port p).slot = none) (f : FrameRecord) :
    s.storeFrame p f = s.updatePort p fun q =>
      { q with assembler := .hunt, slot := some f, counters := q.counters.bump .framesIn } := by
  rw [State.storeFrame, hs, if_neg nofun, State.countPort, State.updatePort_updatePort]
  rfl

/-- Settles O16: the character is collected, or ends the frame, which `judgeFrame` puts under one result. -/
theorem collectedFramesEndUnderOneResult : Obligations.CollectedFramesEndUnderOneResult := by
  intro s p levels ch before spoiled gap h ha hc chars first len heard
  have hlost : ∀ c : PortCounter, c ≠ .framesIn → c ≠ .framesOut → c ≠ .unexpected →
      FrameLost heard (heard.loseFrame p c) p c := fun c => h.heard.frameLost
  refine ⟨(s.heard p).collectCharacter p ch before spoiled, ?_, fun hover => ?_, fun hmore => ?_, fun hend => ?_⟩
  · rw [State.exec_samples h hc, State.deliverCharacter_collect ha]
  · rw [State.collectCharacter_oversize hover.1 hover.2]
    exact hlost .oversize nofun nofun nofun
  · exact State.collectCharacter_more hmore
  · rw [State.collectCharacter_end hend.2]
    have hlose : ∀ c : PortCounter, judgeFrame chars first = .discard c → c ≠ .framesIn → c ≠ .framesOut →
        c ≠ .unexpected → FrameLost heard (heard.endFrame p chars first) p c := fun c hj hin hout hu => by
      rw [State.endFrame_of_discard hj]
      exact hlost c hin hout hu
    refine ⟨fun he => hlose .parityErr ?_ nofun nofun nofun, fun he => hlose .framingErr ?_ nofun nofun nofun,
      fun he hbad => hlose .checkErr ?_ nofun nofun nofun, fun he hgood hnone => hlose .malformed ?_ nofun nofun nofun,
      fun f he hgood hf => ?_⟩
    · rw [he]; rfl
    · rw [he]; rfl
    · simp [judgeFrame, he, hbad]
    · simp [judgeFrame, he, hgood, hnone]
    · have hj : judgeFrame chars first = .wellFormed f := by simp [judgeFrame, he, hgood, hf]
      have hslot : (heard.port p).slot = (s.port p).slot := by simp [heard]
      rw [State.endFrame_of_wellFormed hj]
      refine ⟨fun hs => State.storeFrame_of_empty (hslot.trans hs) f, fun hs => ?_⟩
      have hfull : (s.heard p).storeFrame p f = heard.loseFrame p .overrun :=
        State.storeFrame_of_full (mt hslot.symm.trans hs) f
      rw [hfull]
      exact hlost .overrun nofun nofun nofun

/-- Settles O17: `gapExpiry` loses the frame unless a start bit has come. -/
theorem gapLimitTruncatesTheFrame : Obligations.GapLimitTruncatesTheFrame := by
  intro s p h
  obtain ⟨hdeaf, hnothing⟩ := h
  have hexec : exec (.gapLimitExpiry p) s = .next (s.gapExpiry p) := by
    simp [exec, execGapLimitExpiry, s.takeStored_of_nothingToTake p hnothing, hdeaf]
  rw [hexec]
  refine ⟨fun chars e n ha hr => ⟨_, rfl, ?_⟩, fun hstay => congrArg _ ?_, ?_⟩
  · have heq : s.gapExpiry p = s.loseFrame p .truncated := by
      cases hrec : (s.port p).receiver with
      | reading => exact absurd hrec hr
      | _ => simp [State.gapExpiry, ha, hrec]
    rw [heq]
    exact State.Listens.frameLost ⟨hdeaf, hnothing⟩ nofun nofun nofun
  · rcases hstay with ha | hr
    · simp [State.gapExpiry, ha]
    · cases ha : (s.port p).assembler <;> simp [State.gapExpiry, ha, hr]
  · rw [s.exec_characterReceived p _ hnothing]
    simp [State.lineEvent, State.startEdge, hdeaf]

end Sys2Proof.Machine
end

section
/-! The end of a frame on the line (O19, O20), frames taken at once (O21), and frames on D that the Dispatcher does not want (O34). -/

namespace Sys2Proof.Machine

/-! ### A frame has gone (R29, R90, R118) -/

/-- Whether D settings become live has nothing to do with the handler (R36). -/
theorem State.silence_settleDSettings (s : State) : s.settleDSettings.silence = s.silence.settleDSettings :=
  apply_ite State.silence _ _ _

/-- Settles O19: `endSending`, and what the answer's mark brings. -/
theorem anAnswerGoneBringsWhatItsMarkSays : Obligations.AnAnswerGoneBringsWhatItsMarkSays := by
  intro s straps f left hr htx sent gone
  have hexec : exec (.frameSent .u straps) s = .next ((s.endSending .u).answerGone straps) :=
    State.exec_frameSent (p := .u) straps hr htx
  rw [hexec]
  refine ⟨fun hh => ?_, fun hh => ?_, fun hh => ⟨_, rfl, ?_⟩⟩
  · simp only [State.answerGone, State.endSending_handler, hh]
    rfl
  · have hreceiver : (PortState.applyPending sent).receiver = sent.receiver := s.u.receiver.abandon_abandon
    simp only [State.answerGone, State.endSending_handler, hh]
    show Host.Outcome.next { gone with u := PortState.applyPending sent } = _
    rw [← hreceiver]
    rfl
  · simp only [State.answerGone, State.endSending_handler, hh, State.silence_settleDSettings]
    exact State.settledOn_settleDSettings { gone with dChangeDue := true }

/-- Settles O20: `endSending`, and what a sent request leaves to wait for (R118). -/
theorem aRequestGoneIsAwaitedOrFreed : Obligations.ARequestGoneIsAwaitedOrFreed := by
  intro s straps f left i addr x hr htx hl hx gone
  have hgone : s.endSending .d = gone := rfl
  have hexec : exec (.frameSent .d straps) s = .next gone.requestGone := hgone ▸ State.exec_frameSent (p := .d) straps hr htx
  have hline : gone.line = .sending i addr := hl
  have hentry : gone.entryAt i = some x := hx
  rw [hexec]
  refine ⟨fun hk => ?_, fun hk => ⟨_, rfl, ?_⟩⟩
  · simp only [State.requestGone, hline, hentry, hk, if_false]
    rfl
  · simp only [State.requestGone, hline, hentry, hk, if_true]
    exact State.settledOn_settleDSettings _

/-! ### Frames on D that are not wanted (R119, R120, R126) -/

/-- State s with the frame in the D slot taken and counted UNEXPECTED (R119). -/
def State.unexpectedOnD (s : State) : State :=
  (s.updatePort .d fun q => { q with slot := none, counters := q.counters.bump .unexpected }).raise .dLineError

theorem State.countPort_emptyDSlot (s : State) : s.emptyDSlot.countPort .d .unexpected = s.unexpectedOnD := rfl

/-- The Dispatcher counts a frame it does not want, and lets a reply timer that waited for it take effect (R119, R126). -/
theorem State.exec_unwanted {s : State} {f : FrameRecord} (hr : s.pins.resetN = true) (hf : s.d.slot = some f)
    (hunwanted : f.kind.isRequest = true ∨
      (f.kind.isRequest = false ∧ (s.line = .idle ∨ ∃ i a x, s.OnTheLine i a x ∧ ¬ Matches x a f))) :
    exec (if f.kind.isRequest then Instr.foreignRequest else .dAnswerFrame) s = .next s.unexpectedOnD.waitedTimeout := by
  rcases hunwanted with hreq | ⟨hans, hidle | ⟨i, a, x, ⟨hl, hx⟩, hm⟩⟩
  · simp [hreq, exec, execForeignRequest, hf, State.dTakeNow, hr, State.dispatchForeign, State.countPort_emptyDSlot]
  · have hwait : s.unexpectedOnD.waitedTimeout = s.unexpectedOnD :=
      State.waitedTimeout_eq_self fun i a hl => by cases hidle.symm.trans hl
    have hline : s.emptyDSlot.line = .idle := hidle
    simp [hans, exec, execDAnswerFrame, hf, State.dTakeNow, hr, State.dispatchAnswer, hline, State.countPort_emptyDSlot,
      hwait]
  · have hno : answerMatches x a f = false := by simpa using mt (matches_iff x a f).2 hm
    have hentry : s.emptyDSlot.entryAt i = some x := hx
    have hdispatch : s.emptyDSlot.dispatchAnswer f = s.unexpectedOnD.waitedTimeout := by
      rcases hl with hl | ⟨τ, hl⟩
      · have hline : s.emptyDSlot.line = .sending i a := hl
        simp [State.dispatchAnswer, hline, hentry, hno, State.countPort_emptyDSlot]
      · have hline : s.emptyDSlot.line = .awaiting i a τ := hl
        simp [State.dispatchAnswer, hline, hentry, hno, State.countPort_emptyDSlot]
    simp [hans, exec, execDAnswerFrame, hf, State.dTakeNow, hr, hdispatch]

/-- Settles O34: `exec_unwanted`, and what becomes of the reply timer. -/
theorem unwantedFramesOnDOnlyCount : Obligations.UnwantedFramesOnDOnlyCount := by
  intro s f hr hf hunwanted c counted
  have hexec : exec c s = .next counted.waitedTimeout := State.exec_unwanted hr hf hunwanted
  refine ⟨fun hl => ?_, fun i a x hl hx ha => ?_⟩
  · rw [hexec, State.waitedTimeout_eq_self (s := counted) hl]
  · rw [hexec, State.exec_replyTimeout_waited (s := counted) hr rfl ha hl hx]

/-! ### The U slot after a taking (R26)

No decision of the Request Handler stores a frame. -/

@[simp] theorem State.sendAnswer_u_slot (m : AnswerMark) (g : FrameRecord) (s : State) :
    (s.sendAnswer m g).u.slot = s.u.slot := rfl

theorem State.matchOrAdmit_u_slot (f : FrameRecord) (s : State) : (s.matchOrAdmit f).u.slot = s.u.slot := by
  have hanswer : ∀ (k : Kind) (t : State), (t.answer f k).u.slot = t.u.slot := fun _ _ => rfl
  have hnew : (s.judgeNew f).u.slot = s.u.slot := by
    unfold State.judgeNew State.refuseBusy State.admitAndAnswer
    split
    · rfl
    split
    · rfl
    split
    · simp [hanswer]
    split <;> simp [hanswer]
  unfold State.matchOrAdmit
  split
  · split
    · unfold State.answerRepeat State.deliver
      split <;> simp [hanswer]
    · exact hnew
  · exact hnew

theorem State.decideStation_u_slot (f : FrameRecord) (s : State) : (s.decideStation f).u.slot = s.u.slot := by
  have hunknown : (s.decideUnknown f).u.slot = s.u.slot := by
    unfold State.decideUnknown
    split
    · exact s.matchOrAdmit_u_slot f
    split
    · rfl
    split <;> rfl
  unfold State.decideStation
  split
  · split
    · exact hunknown
    · rfl
    · exact s.matchOrAdmit_u_slot f
    · rfl
    · rfl
  · rfl

theorem State.decideNote_u_slot (f : FrameRecord) (s : State) : (s.decideNote f).u.slot = s.u.slot := by
  unfold State.decideNote
  split
  · split
    · rfl
    · split <;> simp
  · rfl

theorem State.decideAnswer_u_slot (before : Handler) (f : FrameRecord) (s : State) :
    (s.decideAnswer before f).u.slot = s.u.slot := by
  have hclash : (s.clashCheck f).u.slot = s.u.slot := by
    unfold State.clashCheck
    split <;> rfl
  unfold State.decideAnswer
  split
  · split <;> simp
  all_goals exact hclash

/-- A SET leaves the U slot if its effect does (R161). -/
theorem State.judgeSet_u_slot {len : Nat} {fields : List Byte → List Bool} {m : AnswerMark}
    {effect : List Byte → State → State} (he : ∀ payload t, (effect payload t).u.slot = t.u.slot) (f : FrameRecord)
    (s : State) : (s.judgeSet len fields m effect f).u.slot = s.u.slot := by
  unfold State.judgeSet
  dsimp only
  split
  · rfl
  · split
    · rfl
    · exact he f.payload s.forgetMemory

theorem State.pauseFor_u_slot (d : Nat) (s : State) : (s.pauseFor d).u.slot = s.u.slot := by
  unfold State.pauseFor
  split <;> simp

theorem State.writeStation_u_slot (a : Nat) (side : Side) (payload : List Byte) (s : State) :
    (s.writeStation a side payload).u.slot = s.u.slot := by
  have hstore : (s.storeStation a side payload).u.slot = s.u.slot := by
    unfold State.storeStation
    dsimp only
    split <;> simp
  unfold State.writeStation
  split <;> simp [hstore]

theorem State.readAndClear_u_slot {clear : State → State} (hc : ∀ t, (clear t).u.slot = t.u.slot) (payload : List Byte)
    (f : FrameRecord) (s : State) : (s.readAndClear clear payload f).u.slot = s.u.slot := by
  unfold State.readAndClear
  split
  · rfl
  · exact hc s.forgetMemory

theorem State.decide_u_slot (t : Taking) (before : Handler) (f : FrameRecord) (s : State) :
    (s.decide t before f).u.slot = s.u.slot := by
  cases t with
  | stationRequest => exact s.decideStation_u_slot f
  | note => exact s.decideNote_u_slot f
  | uAnswerFrame => exact s.decideAnswer_u_slot before f
  | factorAck => exact State.judgeSet_u_slot (by exact fun _ _ => rfl) f s
  | factorLevels => exact State.judgeSet_u_slot (by exact fun _ _ => rfl) f s
  | uPort => exact State.judgeSet_u_slot (by exact fun _ _ => rfl) f s
  | dPort => exact State.judgeSet_u_slot (by exact fun _ _ => rfl) f s
  | timing => exact State.judgeSet_u_slot (by exact fun _ _ => rfl) f s
  | policy => exact State.judgeSet_u_slot (by exact fun _ _ => rfl) f s
  | pause => exact State.judgeSet_u_slot (fun payload => State.pauseFor_u_slot (wordAt payload 0)) f s
  | flush => exact State.judgeSet_u_slot (fun _ _ => by simp) f s
  | clear => exact State.judgeSet_u_slot (fun _ _ => by simp) f s
  | restart => exact State.judgeSet_u_slot (by exact fun _ _ => rfl) f s
  | station =>
    unfold State.decide State.decideStationWrite
    dsimp only
    split
    · rfl
    · exact State.judgeSet_u_slot (fun payload => State.writeStation_u_slot _ _ payload) f s
  | countersReadClear =>
    exact State.readAndClear_u_slot (fun _ => by simp [State.clearStationCounters]) _ f s
  | portCountersReadClear => exact State.readAndClear_u_slot (by exact fun _ => rfl) _ f s
  | managementRequest =>
    unfold State.decide State.decideManagementRequest
    dsimp only
    split
    · rfl
    · split <;> rfl

/-! ### At once (R26) -/

/-- The step that a frame is for takes it as its owner takes it at once (R26). -/
theorem State.exec_taking {s : State} {f : FrameRecord} (h : s.CanTake f) :
    exec (takingOf s.mgmtAddr f).command s = .next s.uTakeNow := by
  have htake := (s.canTake_iff f).1 h
  have hexec : ∀ t : Taking, exec t.command s = .next (s.takeAs t (State.decide t s.handler)) := fun t => by
    cases t <;> rfl
  rw [hexec]
  simp only [State.takeAs, State.uTakeNow, htake, if_true]

/-- Once the handler has taken what it could, there is nothing more for it to take. -/
theorem State.nothingToTake_uTakeNow {s : State} {f : FrameRecord} (h : s.CanTake f) : s.uTakeNow.NothingToTake .u := by
  refine .inr (.inl ?_)
  have htake := (s.canTake_iff f).1 h
  simp only [State.uTakeNow, htake]
  exact State.decide_u_slot _ _ _ _

theorem State.nothingToTake_dTakeNow {s : State} (hr : s.pins.resetN = true) : s.dTakeNow.NothingToTake .d :=
  .inr (.inl (State.dTakeNow_d_slot hr))

/-- A line event, a gap limit or a start at a port meets the state that the taking leaves (R26, log 9). -/
theorem State.exec_after_taking {s t : State} {p : Port} (hs : s.takeStored p = t) (ht : t.NothingToTake p) :
    (∀ e, exec (.characterReceived p e) s = exec (.characterReceived p e) t) ∧
      exec (.gapLimitExpiry p) s = exec (.gapLimitExpiry p) t ∧
      exec (.transmitStart p) s = exec (.transmitStart p) t := by
  have htt : t.takeStored p = t := t.takeStored_of_nothingToTake p ht
  refine ⟨fun e => ?_, ?_, ?_⟩
  · simp only [exec, execCharacterReceived, hs, htt]
  · simp only [exec, execGapLimitExpiry, hs, htt]
  · simp only [exec, execTransmitStart, hs, htt]

/-- Settles O21: `exec_taking`, and that a taking leaves nothing more to take. -/
theorem aStoredFrameIsTakenFirst : Obligations.AStoredFrameIsTakenFirst := by
  refine ⟨fun s t f h ht => ?_, fun s t f hr hf ht => ?_⟩
  · cases (State.exec_taking h).symm.trans ht
    obtain ⟨hchar, hgap, hstart⟩ := State.exec_after_taking (p := .u) rfl (State.nothingToTake_uTakeNow h)
    refine ⟨hchar, hgap, hstart, ?_⟩
    have htake := (s.canTake_iff f).1 h
    simp only [exec, execDiscoveryWindowExpiry, h.1, htake, if_true]
  · have hexec : exec (if f.kind.isRequest then .foreignRequest else .dAnswerFrame) s = .next s.dTakeNow := by
      cases hk : f.kind.isRequest <;> simp [exec, execForeignRequest, execDAnswerFrame, hf, hk]
    cases hexec.symm.trans ht
    have hnothing := State.nothingToTake_dTakeNow hr
    have hsame : s.dTakeNow.dTakeNow = s.dTakeNow := State.takeStored_of_nothingToTake _ .d hnothing
    obtain ⟨hchar, hgap, hstart⟩ := State.exec_after_taking (p := .d) rfl hnothing
    refine ⟨hchar, hgap, hstart, ?_, ?_⟩
    · simp only [exec, execSelection, hsame]
    · simp only [exec, execReplyTimeout, hsame, State.dTakeNow_pins, hr, if_true]

end Sys2Proof.Machine
end

section
/-! With no command waiting: the steps of the block's own that are due (O2), and the passing of time (O3). -/

namespace Sys2Proof.Machine

/-! ### Telling the commands apart -/

/-- The way of taking a frame that a command is, if it is one. -/
def takingOfCommand : Instr → Option Taking
  | .stationRequest => some .stationRequest
  | .note => some .note
  | .uAnswerFrame => some .uAnswerFrame
  | .factorAck => some .factorAck
  | .factorLevels => some .factorLevels
  | .uPort => some .uPort
  | .dPort => some .dPort
  | .timing => some .timing
  | .policy => some .policy
  | .pause => some .pause
  | .flush => some .flush
  | .clear => some .clear
  | .restart => some .restart
  | .station => some .station
  | .countersReadClear => some .countersReadClear
  | .portCountersReadClear => some .portCountersReadClear
  | .managementRequest => some .managementRequest
  | _ => none

theorem takingOfCommand_command (k : Taking) : takingOfCommand k.command = some k := by
  cases k <;> rfl

theorem Taking.command_inj {k m : Taking} : k.command = m.command ↔ k = m := by
  refine ⟨fun h => ?_, congrArg _⟩
  simpa [takingOfCommand_command] using congrArg takingOfCommand h

/-- A command that takes no frame for the handler is none of the takings. -/
theorem Taking.ne_command {c : Instr} (hc : takingOfCommand c = none) (k : Taking) : c ≠ k.command := fun h => by
  rw [h, takingOfCommand_command] at hc
  cases hc

/-! ### What is in each part of the list (R24 to R29, R48, R51, R97, R115, R118, R132, R138) -/

theorem State.mem_dueTakes (s : State) (c : Instr) :
    c ∈ s.dueTakes ↔
      (c = .foreignRequest ∧ ∃ f, s.d.slot = some f ∧ f.kind.isRequest = true) ∨
        (c = .dAnswerFrame ∧ ∃ f, s.d.slot = some f ∧ f.kind.isRequest = false) ∨
          ∃ f, s.CanTake f ∧ c = (takingOf s.mgmtAddr f).command := by
  simp only [State.canTake_iff]
  unfold State.dueTakes
  rw [List.mem_append, ← or_assoc]
  refine or_congr ?_ ?_
  · cases hs : s.d.slot with
    | none => simp
    | some f => cases hk : f.kind.isRequest <;> simp [hk]
  · cases ht : s.takeable <;> simp

theorem State.mem_duePort (s : State) (p : Port) (c : Instr) :
    c ∈ s.duePort p ↔
      (c = .frameSent p s.pins.straps ∧ ∃ f, (s.port p).tx = .sending f 0) ∨
        (c = .gapLimitExpiry p ∧ (∃ chars e, (s.port p).assembler = .collect chars e 0) ∧ (s.port p).receiver ≠ .reading) := by
  unfold State.duePort
  rw [List.mem_append]
  refine or_congr ?_ ?_
  · cases htx : (s.port p).tx <;> simp [and_comm]
  · cases ha : (s.port p).assembler <;> cases hr : (s.port p).receiver <;> simp [and_comm]

theorem State.mem_dueTimers (s : State) (c : Instr) :
    c ∈ s.dueTimers ↔
      (c = .discoveryWindowExpiry ∧ (∃ f, s.handler = .window f 0) ∧ s.u.assembler = .hunt) ∨
        (c = .replyTimeout ∧ (∃ i a, s.line = .awaiting i a 0) ∧ s.d.assembler = .hunt) ∨
        (c = .pauseTimerExpiry ∧ s.mode = .paused 0) ∨ (c = .deafPeriodEnd ∧ s.restartDeaf = some 0) ∨
        (c = .ladderStep ∧ s.stepTimer = some 0) := by
  unfold State.dueTimers
  rw [List.mem_append, List.mem_append, List.mem_append, List.mem_append, or_assoc, or_assoc, or_assoc]
  refine or_congr ?_ (or_congr ?_ (or_congr ?_ (or_congr ?_ ?_)))
  · cases hh : s.handler <;> simp [and_comm]
  · cases hl : s.line <;> simp [and_comm]
  · cases hm : s.mode <;> simp [and_comm]
  · split <;> simp_all
  · split <;> simp_all

theorem mem_dueEntry (i : Nat) (e : Option Exchange) (c : Instr) :
    c ∈ dueEntry i e ↔
      (c = .reAskExpiry i ∧ ∃ x, e = some x ∧ x.phase = .farWait 0) ∨
        (c = .collectionExpiry i ∧ ∃ x o, e = some x ∧ x.phase = .ready o 0) := by
  cases e with
  | none => simp [dueEntry]
  | some x => cases hp : x.phase <;> simp [dueEntry, hp, and_comm]

theorem State.mem_dueEntries (s : State) (c : Instr) :
    c ∈ s.dueEntries ↔ ∃ i, i < 8 ∧
      ((c = .reAskExpiry i ∧ ∃ x, s.entryAt i = some x ∧ x.phase = .farWait 0) ∨
        (c = .collectionExpiry i ∧ ∃ x o, s.entryAt i = some x ∧ x.phase = .ready o 0)) := by
  simp only [State.dueEntries, List.mem_flatMap, List.mem_range, mem_dueEntry]

theorem PortState.mayStart_and_turnaroundPassed (q : PortState) :
    (q.mayStart && q.turnaroundPassed) = true ↔
      (∃ f, q.tx = .waiting f) ∧ q.assembler = .hunt ∧ q.receiver ≠ .reading ∧
        ∀ t, q.sinceLast = some t → q.live.turnaround * q.live.charTime ≤ t := by
  have hwait : q.tx.isWaiting = true ↔ ∃ f, q.tx = .waiting f := by
    cases q.tx <;> simp [Transmitter.isWaiting]
  have hpassed : q.turnaroundPassed = true ↔
      ∀ t, q.sinceLast = some t → q.live.turnaround * q.live.charTime ≤ t := by
    unfold PortState.turnaroundPassed
    cases q.sinceLast <;> simp
  simp only [PortState.mayStart, Bool.and_eq_true, hwait, hpassed, beq_iff_eq, bne_iff_ne, and_assoc]

theorem State.mem_dueSending (s : State) (c : Instr) :
    c ∈ s.dueSending ↔
      (c = .selection ∧ s.maySelect = true ∧ s.pick.isSome = true) ∨
        ∃ p, c = .transmitStart p ∧ ((s.port p).mayStart && (s.port p).turnaroundPassed) = true := by
  have hports : (∃ p, c = .transmitStart p ∧ ((s.port p).mayStart && (s.port p).turnaroundPassed) = true) ↔
      (c = .transmitStart .u ∧ (s.u.mayStart && s.u.turnaroundPassed) = true) ∨
        (c = .transmitStart .d ∧ (s.d.mayStart && s.d.turnaroundPassed) = true) := by
    constructor
    · rintro ⟨p, h⟩
      cases p
      · exact .inl h
      · exact .inr h
    · rintro (h | h)
      · exact ⟨.u, h⟩
      · exact ⟨.d, h⟩
  have hif : ∀ (b : Bool) (i : Instr), c ∈ (if b then [i] else []) ↔ c = i ∧ b = true := fun b i => by
    cases b <;> simp
  unfold State.dueSending
  rw [List.mem_append, List.mem_append, or_assoc, hports, hif, hif, hif, Bool.and_eq_true]

/-! ### A selection (R115, R116) -/

/-- The largest of a list of numbers, counted from a, is a or one of them. -/
theorem foldl_max_mem (l : List Nat) (a : Nat) : l.foldl max a ∈ a :: l := by
  induction l generalizing a with
  | nil => exact List.mem_singleton_self a
  | cons b l ih =>
    have := ih (max a b)
    rcases Nat.le_total a b with h | h
    · rw [Nat.max_eq_right h] at this
      simpa [Nat.max_eq_right h] using Or.inr this
    · rw [Nat.max_eq_left h] at this
      rcases List.mem_cons.1 this with he | hm
      · simp [Nat.max_eq_left h, he]
      · simpa [Nat.max_eq_left h] using Or.inr (Or.inr hm)

theorem le_foldl_max (l : List Nat) (a : Nat) : a ≤ l.foldl max a := by
  induction l generalizing a with
  | nil => exact Nat.le_refl a
  | cons b l ih => exact Nat.le_trans (Nat.le_max_left a b) (ih (max a b))

theorem le_foldl_max_of_mem {l : List Nat} {n : Nat} (h : n ∈ l) (a : Nat) : n ≤ l.foldl max a := by
  induction l generalizing a with
  | nil => cases h
  | cons b l ih =>
    rcases List.mem_cons.1 h with rfl | h
    · exact Nat.le_trans (Nat.le_max_right a n) (le_foldl_max l (max a n))
    · exact ih h (max a b)

theorem State.candidateClass_isSome_iff (s : State) (i : Nat) :
    (s.candidateClass i).isSome = true ↔ ∃ x, s.entryAt i = some x ∧ x.phase = .queued := by
  unfold State.candidateClass
  cases hx : s.entryAt i with
  | none => simp
  | some x => cases hp : x.phase <;> simp [Exchange.isQueued, hp]

/-- There is an entry to pick exactly when one in the order list is QUEUED: the highest class is the class of one (R116). -/
theorem State.pick_isSome_iff (s : State) :
    s.pick.isSome = true ↔ ∃ i ∈ s.order, ∃ x, s.entryAt i = some x ∧ x.phase = .queued := by
  simp only [← State.candidateClass_isSome_iff, State.pick, List.find?_isSome, beq_iff_eq]
  constructor
  · rintro ⟨i, hi, hc⟩
    exact ⟨i, hi, by rw [hc]; rfl⟩
  · rintro ⟨i, hi, hc⟩
    obtain ⟨n, hn⟩ := Option.isSome_iff_exists.1 hc
    have hmem : n ∈ s.order.filterMap s.candidateClass := List.mem_filterMap.2 ⟨i, hi, hn⟩
    have hbest : (s.order.filterMap s.candidateClass).foldl max 0 ∈ s.order.filterMap s.candidateClass := by
      rcases List.mem_cons.1 (foldl_max_mem (s.order.filterMap s.candidateClass) 0) with h0 | h
      · have hn0 : n ≤ 0 := h0 ▸ le_foldl_max_of_mem hmem 0
        rw [h0]
        exact Nat.le_zero.1 hn0 ▸ hmem
      · exact h
    obtain ⟨j, hj, hjc⟩ := List.mem_filterMap.1 hbest
    exact ⟨j, hj, hjc⟩

theorem State.maySelect_iff (s : State) : s.maySelect = true ↔ s.pins.resetN = true ∧ s.mode = .run ∧ s.line = .idle := by
  simp [State.maySelect, and_assoc]

/-! ### The steps that are due -/

theorem State.mem_due {s : State} (hr : s.pins.resetN = true) (c : Instr) :
    c ∈ s.due ↔ c ∈ s.dueTakes ∨ (∃ p, c ∈ s.duePort p) ∨ c ∈ s.dueTimers ∨ c ∈ s.dueEntries ∨ c ∈ s.dueSending := by
  have hports : (∃ p, c ∈ s.duePort p) ↔ c ∈ s.duePort .u ∨ c ∈ s.duePort .d := by
    constructor
    · rintro ⟨p, h⟩
      cases p
      · exact .inl h
      · exact .inr h
    · rintro (h | h)
      · exact ⟨.u, h⟩
      · exact ⟨.d, h⟩
  simp only [State.due, hr, if_true, List.mem_append, hports, or_assoc]

/-- A command that takes no frame for the handler is due by the part of the list that is for it. -/
theorem State.mem_due_of_not_taking {s : State} (hr : s.pins.resetN = true) {c : Instr} (hc : takingOfCommand c = none) :
    c ∈ s.due ↔
      (c = .foreignRequest ∧ ∃ f, s.d.slot = some f ∧ f.kind.isRequest = true) ∨
        (c = .dAnswerFrame ∧ ∃ f, s.d.slot = some f ∧ f.kind.isRequest = false) ∨ (∃ p, c ∈ s.duePort p) ∨
          c ∈ s.dueTimers ∨ c ∈ s.dueEntries ∨ c ∈ s.dueSending := by
  have hnone : ¬ ∃ f, s.CanTake f ∧ c = (takingOf s.mgmtAddr f).command := fun ⟨f, _, h⟩ => Taking.ne_command hc _ h
  rw [s.mem_due hr, s.mem_dueTakes, or_iff_left hnone, or_assoc]

/-- A step that takes a frame for the handler is due when there is a frame for it to take (R26). -/
theorem State.command_mem_due {s : State} (hr : s.pins.resetN = true) (k : Taking) :
    k.command ∈ s.due ↔ ∃ f, s.CanTake f ∧ takingOf s.mgmtAddr f = k := by
  have hne : ∀ {c : Instr}, takingOfCommand c = none → k.command ≠ c := fun hc h => Taking.ne_command hc k h.symm
  have hother : ¬ ((∃ p, k.command ∈ s.duePort p) ∨ k.command ∈ s.dueTimers ∨ k.command ∈ s.dueEntries ∨
      k.command ∈ s.dueSending) := by
    simp only [State.mem_duePort, State.mem_dueTimers, State.mem_dueEntries, State.mem_dueSending]
    rintro (⟨p, ⟨hc, -⟩ | ⟨hc, -⟩⟩ | (⟨hc, -⟩ | ⟨hc, -⟩ | ⟨hc, -⟩ | ⟨hc, -⟩ | ⟨hc, -⟩) |
      ⟨i, -, ⟨hc, -⟩ | ⟨hc, -⟩⟩ | (⟨hc, -⟩ | ⟨p, hc, -⟩))
    all_goals exact hne rfl hc
  rw [s.mem_due hr, or_iff_left hother, s.mem_dueTakes]
  constructor
  · rintro (⟨hc, -⟩ | ⟨hc, -⟩ | ⟨f, hf, hc⟩)
    · exact absurd hc (hne rfl)
    · exact absurd hc (hne rfl)
    · exact ⟨f, hf, (Taking.command_inj.1 hc).symm⟩
  · rintro ⟨f, hf, rfl⟩
    exact .inr (.inr ⟨f, hf, rfl⟩)

/-- Settles O2: each step is in the one part of the list that is for it. -/
theorem ownStepsRunWhenTheirMomentHasCome : Obligations.OwnStepsRunWhenTheirMomentHasCome := by
  intro s hp hr
  have hdue : ∀ {c : Instr}, takingOfCommand c = none → (c ∈ s.due ↔ _) := s.mem_due_of_not_taking hr
  simp only [State.mem_duePort, State.mem_dueTimers, State.mem_dueEntries, State.mem_dueSending,
    PortState.mayStart_and_turnaroundPassed] at hdue
  refine ⟨fun hd => ?_, fun c rest hd => ?_, s.command_mem_due hr, ?_, ?_, fun p straps => ?_, fun p => ?_, fun p => ?_,
    ?_, ?_, fun i => ?_, fun i => ?_, ?_, ?_, ?_, ?_⟩
  · simp only [step, hp, hd, State.pass, hr, if_true]
  · simp only [step, hp, hd]
  all_goals rw [hdue rfl]
  all_goals simp [State.maySelect_iff, State.pick_isSome_iff, hr, and_assoc]

/-! ### The passing of time (R18, R24, R48, R51) -/

theorem State.entryAt_tick (s : State) (i : Nat) : s.tick.entryAt i = (s.entryAt i).map Exchange.tick :=
  s.entryAt_map _ rfl i

theorem State.port_tick (s : State) (p : Port) : s.tick.port p = (s.port p).tick := by
  cases p <;> rfl

/-- An exchange whose phase has no timer stays as it is. -/
theorem Exchange.tick_eq_self {x : Exchange} (hf : ∀ n, x.phase ≠ .farWait n) (hr : ∀ o n, x.phase ≠ .ready o n) :
    x.tick = x := by
  obtain ⟨phase, key, posted, discovery, cls, payload, attempts, reAsks⟩ := x
  cases phase with
  | farWait n => exact absurd rfl (hf n)
  | ready o n => exact absurd rfl (hr o n)
  | _ => rfl

/-- Settles O3: the unit of time is `State.tick`, timer by timer. -/
theorem aUnitOfTimeMovesOnlyTimers : Obligations.AUnitOfTimeMovesOnlyTimers := by
  intro s hp hr hd
  have hstep : step s = .next s.tick := by simp only [step, hp, hd, State.pass, hr, if_true]
  refine ⟨s.tick, hstep, rfl, fun p => ?_, fun p chars e n ha => ?_, fun p ha => ?_, fun p f n htx => ?_,
    fun p htx => ?_, fun i x n hx hph => ?_, fun i x o n hx hph => ?_, fun i hx => ?_, fun f n hh => ?_, fun hh => ?_,
    fun n hm => ?_, fun hm => ?_, fun i a n hl => ?_, fun hl => ?_⟩
  · rw [s.port_tick]
    rfl
  · rw [s.port_tick, PortState.tick, ha]
  · rw [s.port_tick, PortState.tick, ha]
  · rw [s.port_tick, PortState.tick, htx]
  · rw [s.port_tick, PortState.tick]
    cases h : (s.port p).tx with
    | sending f n => exact absurd h (htx f n)
    | _ => rfl
  · rw [s.entryAt_tick, hx, Option.map_some, Exchange.tick, hph]
  · rw [s.entryAt_tick, hx, Option.map_some, Exchange.tick, hph]
  · rw [s.entryAt_tick]
    cases h : s.entryAt i with
    | none => rfl
    | some x => exact congrArg some (Exchange.tick_eq_self (fun n => (hx x n h).1) fun o n => (hx x n h).2 o)
  · rw [State.tick, hh]
    rfl
  · cases h : s.handler with
    | window f n => exact absurd h (hh f n)
    | _ => rw [State.tick, h]; rfl
  · rw [State.tick, hm]
    rfl
  · rw [State.tick, hm]
    rfl
  · rw [State.tick, hl]
    rfl
  · cases h : s.line with
    | awaiting i a n => exact absurd h (hl i a n)
    | _ => rw [State.tick, h]; rfl

end Sys2Proof.Machine
end

section
/-! Port settings and RESTART: what their SETs leave waiting (O46). -/

namespace Sys2Proof.Machine

/-! ### Taking a management request (R93, R160) -/

/-- A management request goes to the step that is for its kind and object (R160). -/
theorem takingOf_of_canManage {s : State} {f : FrameRecord} {kind : Kind} {n : Nat} (h : s.CanManage f kind n)
    (hk : kind = .ask ∨ kind = .set) : takingOf s.mgmtAddr f = managementTaking kind (.ofNumber n) := by
  obtain ⟨-, ha, rfl, rfl⟩ := h
  rcases hk with hk | hk <;> simp [takingOf, hk, Kind.isRequest, ha]

/-- The step that a management request is for takes it and decides it. -/
theorem State.exec_of_canManage {s : State} {f : FrameRecord} {kind : Kind} {n : Nat} (h : s.CanManage f kind n)
    (hk : kind = .ask ∨ kind = .set) :
    exec (managementTaking kind (.ofNumber n)).command s =
      .next ((s.beginTaking f).decide (managementTaking kind (.ofNumber n)) s.handler f) := by
  have htake := (s.canTake_iff f).1 h.1
  rw [← takingOf_of_canManage h hk, State.exec_taking h.1]
  simp only [State.uTakeNow, htake]

/-- An accepted SET has its effect, and then its DONE is formed (R161). -/
theorem State.judgeSet_accepted {s : State} {f : FrameRecord} {len : Nat} {fields : List Byte → List Bool}
    (hlen : f.payload.length = len) (hf : firstBad (fields f.payload) = none) (m : AnswerMark)
    (effect : List Byte → State → State) :
    s.judgeSet len fields m effect f = (effect f.payload s.forgetMemory).answerManagement f .done [] m := by
  simp only [State.judgeSet, hlen, hf, ne_eq, not_true_eq_false, if_false]

/-! ### Port settings (R34, R167) -/

/-- Values in their ranges are allowed, field by field (R167). -/
theorem firstBad_settingsFields {payload : List Byte} (h : AllInside (portValues payload) portRanges) :
    firstBad (settingsFields payload) = none := by
  have hall : ∀ b ∈ settingsFields payload, b = true := by
    simp only [allInside_iff, portValues, portRanges, List.zip_cons_cons, List.zip_nil_right, List.forall_mem_cons] at h
    simp only [settingsFields, List.forall_mem_cons, decide_eq_true_eq, wordAt, Nat.zero_add]
    obtain ⟨hdivisor, hparity, hstop, hturnaround, hgap, -⟩ := h
    exact ⟨hdivisor, hparity.2, hstop, hturnaround.2, hgap, nofun⟩
  simpa [firstBad, List.findIdx?_eq_none_iff] using hall

/-- Settings in their ranges are read from the payload as they stand in it (R167, R180). -/
theorem parity_code_ofPayload {payload : List Byte} (h : AllInside (portValues payload) portRanges) :
    (Settings.ofPayload payload).parity.code = byteAt payload 2 := by
  simp only [allInside_iff, portValues, portRanges, List.zip_cons_cons, List.zip_nil_right, List.forall_mem_cons] at h
  obtain ⟨-, hparity, -⟩ := h
  have hle : byteAt payload 2 ≤ 2 := hparity.2
  show (Parity.ofCode (byteAt payload 2)).code = byteAt payload 2
  interval_cases byteAt payload 2 <;> rfl

/-- Settles O46: each SET is taken and accepted, and its effect is on the pending copy, or none. -/
theorem portSettingsAndRestartWaitForTheirDone : Obligations.PortSettingsAndRestartWaitForTheirDone := by
  intro s f written
  have hwritten : ∀ q : PortState, AllInside (portValues f.payload) portRanges →
      written { q with pendingCopy := .ofPayload f.payload, pendingFlag := true } := fun q h =>
    ⟨h, rfl, parity_code_ofPayload h, rfl, rfl, rfl⟩
  refine ⟨fun h hlen hin => ⟨_, rfl, hwritten s.u hin, ?_⟩, fun h hlen hin => ⟨_, rfl, hwritten s.d hin, ?_⟩,
    fun h hlen => ?_⟩
  · have hexec : exec .uPort s = .next ((s.beginTaking f).decideUPort f) := State.exec_of_canManage h (.inr rfl)
    rw [hexec, State.decideUPort,
      State.judgeSet_accepted hlen (firstBad_settingsFields hin)]
    rfl
  · have hexec : exec .dPort s = .next ((s.beginTaking f).decideDPort f) := State.exec_of_canManage h (.inr rfl)
    rw [hexec, State.decideDPort,
      State.judgeSet_accepted hlen (firstBad_settingsFields hin)]
    rfl
  · have hexec : exec .restart s = .next ((s.beginTaking f).decideRestart f) := State.exec_of_canManage h (.inr rfl)
    rw [hexec, State.decideRestart, State.judgeSet_accepted (by rw [hlen]; rfl) rfl]
    rfl

end Sys2Proof.Machine
end

section
/-! Live exchanges, spent keys and held requests (O57): when a state adds nothing to those of another, and the operations that add
nothing. -/

namespace Sys2Proof.Machine

/-! ### The condition, and a state that adds nothing to another -/

/-- A station whose exchanges may be live: its record has side DOWNSTREAM or UNKNOWN (R40). -/
def State.Reaches (s : State) (a : Nat) : Prop :=
  isStation a = true ∧ ((s.stationAt a).side = .downstream ∨ (s.stationAt a).side = .unknown)

/-- Live keys are distinct, the Spent List is sound, and live exchanges and held requests are of stations that may have them. -/
structure State.ExchangesDistinct (s : State) : Prop where
  keys : s.LiveKeysDistinct
  spent : s.SpentExact
  stations : s.LiveStationsReachable

/-- The state s adds nothing to what s₀ had: its live exchanges were live under the same keys in the same entries, its spent keys were
spent, the stations that s₀ reaches it reaches, and a request its window holds was held. -/
structure State.AddsNothingTo (s s₀ : State) : Prop where
  live : ∀ i y, s.entryAt i = some y → y.isLive = true → ∃ x, s₀.entryAt i = some x ∧ x.isLive = true ∧ x.key = y.key
  spent : s.spent.Sublist s₀.spent
  reaches : ∀ a, s₀.Reaches a → s.Reaches a
  window : ∀ f n, s.handler = .window f n → ∃ m, s₀.handler = .window f m

/-- The condition is of every live exchange, spent key and held request, so it stays when none is added. -/
theorem State.ExchangesDistinct.of_addsNothing {s s₀ : State} (h : s₀.ExchangesDistinct) (ha : s.AddsNothingTo s₀) :
    s.ExchangesDistinct := by
  obtain ⟨hkeys, ⟨hlen, hnodup, hspent⟩, hlive, hwindow⟩ := h
  refine ⟨fun i j x y hx hy hlx hly hk => ?_, ⟨ha.spent.length_le.trans hlen, ha.spent.nodup hnodup, fun k hk => ?_⟩,
    fun i x hx hl hn => ?_, fun f n hw => ?_⟩
  · obtain ⟨x₀, hx₀, hlx₀, hkx⟩ := ha.live i x hx hlx
    obtain ⟨y₀, hy₀, hly₀, hky⟩ := ha.live j y hy hly
    exact hkeys i j x₀ y₀ hx₀ hy₀ hlx₀ hly₀ (by rw [hkx, hky, hk])
  · obtain ⟨hset, hnone⟩ := hspent k (ha.spent.subset hk)
    refine ⟨hset, fun i x hx hl => ?_⟩
    obtain ⟨x₀, hx₀, hl₀, hkx⟩ := ha.live i x hx hl
    exact hkx ▸ hnone i x₀ hx₀ hl₀
  · obtain ⟨x₀, hx₀, hl₀, hk⟩ := ha.live i x hx hl
    rw [← hk] at hn ⊢
    exact ha.reaches _ (hlive i x₀ hx₀ hl₀ hn)
  · obtain ⟨m, hm⟩ := ha.window f n hw
    obtain ⟨hk, hreach⟩ := hwindow f m hm
    exact ⟨hk, ha.reaches _ hreach⟩

theorem Exchange.isLive_iff (x : Exchange) : x.isLive = true ↔ x.phase ≠ .withdrawn := by
  simp [Exchange.isLive]

theorem Exchange.isLive_tick (x : Exchange) : x.tick.isLive = x.isLive := by
  cases hp : x.phase <;> simp only [Exchange.tick, Exchange.isLive, hp] <;> rfl

theorem Exchange.isLive_of_withdrawnOrFree {x y : Exchange} (h : x.withdrawnOrFree = some y) : y.isLive = false := by
  unfold Exchange.withdrawnOrFree at h
  split at h
  · cases h
    rfl
  · cases h

/-! ### What a flush and a clear do (R57, R61), and a write to the records (R76) -/

/-- What becomes of an entry when the exchanges that `own` picks are withdrawn or freed. -/
def withdrawEntry (own : Exchange → Bool) : Option Exchange → Option Exchange
  | some x => if own x then x.withdrawnOrFree else some x
  | none => none

/-- State s with the exchanges that `own` picks withdrawn or freed. -/
def State.withdrawTable (own : Exchange → Bool) (s : State) : State :=
  { s with entries := s.entries.map (withdrawEntry own) }

/-- The same with the FREE entries out of the Dispatch Order list. -/
def State.withdrawn (own : Exchange → Bool) (s : State) : State :=
  { s.withdrawTable own with order := (s.withdrawTable own).orderOfTaken }

/-- What a flush and a clear do once the spent keys are removed: the table with its list, the frame that waits on D, and the settings
that wait for its line (R36, R57, R61, R125). -/
def State.withdrawExchanges (own : Exchange → Bool) (s : State) : State :=
  (s.withdrawn own).dropWaitingWithdrawn.settleDSettings

theorem State.flush_eq (a : Nat) (s : State) :
    s.flush a = ({ s with spent := s.spent.filter fun k => k.addr ≠ a } : State).withdrawExchanges (·.belongsTo a) :=
  rfl

theorem State.clearExchanges_eq (s : State) :
    s.clearExchanges = ({ s with spent := [], mode := .run } : State).withdrawExchanges fun _ => true :=
  rfl

theorem State.entryAt_withdrawTable (own : Exchange → Bool) (s : State) (i : Nat) :
    (s.withdrawTable own).entryAt i = withdrawEntry own (s.entryAt i) :=
  s.entryAt_map (withdrawEntry own) rfl i

/-- What is left live is as it was, and not of those that were picked. -/
theorem live_withdrawEntry {own : Exchange → Bool} {e : Option Exchange} {y : Exchange} (h : withdrawEntry own e = some y)
    (hl : y.isLive = true) : e = some y ∧ own y = false := by
  unfold withdrawEntry at h
  split at h
  · split at h
    · rw [Exchange.isLive_of_withdrawnOrFree h] at hl
      cases hl
    · next hb =>
      cases h
      exact ⟨rfl, by simpa using hb⟩
  · cases h

theorem State.stationAt_updateStation_of_ne (s : State) {a b : Nat} (g : StationRecord → StationRecord) (hb : b ≠ a) :
    (s.updateStation a g).stationAt b = s.stationAt b := by
  rcases s.stationAt_updateStation_or a b g with he | ⟨rfl, -, -⟩
  · exact he
  · exact absurd rfl hb

theorem State.stationAt_setLevel_of_ne (s : State) {a b : Nat} (level : Nat) (hb : b ≠ a) :
    (s.setLevel a level).stationAt b = s.stationAt b := by
  have hs := s.stationAt_updateStation_of_ne (fun r => { r with level := level }) hb
  unfold State.setLevel
  split
  · dsimp only
    split <;> exact hs
  · rfl

theorem State.stationAt_storeStation_of_ne (s : State) {a b : Nat} (side : Side) (payload : List Byte) (hb : b ≠ a) :
    (s.storeStation a side payload).stationAt b = s.stationAt b := by
  unfold State.storeStation
  dsimp only
  split
  · rw [State.stationAt_setLevel_of_ne _ _ hb, State.stationAt_updateStation_of_ne _ _ hb]
  · exact s.stationAt_updateStation_of_ne _ hb

@[simp] theorem State.storeStation_entries (a : Nat) (side : Side) (payload : List Byte) (s : State) :
    (s.storeStation a side payload).entries = s.entries := by
  unfold State.storeStation
  dsimp only
  split <;> simp

@[simp] theorem State.storeStation_spent (a : Nat) (side : Side) (payload : List Byte) (s : State) :
    (s.storeStation a side payload).spent = s.spent := by
  unfold State.storeStation
  dsimp only
  split <;> simp

@[simp] theorem State.storeStation_handler (a : Nat) (side : Side) (payload : List Byte) (s : State) :
    (s.storeStation a side payload).handler = s.handler := by
  unfold State.storeStation
  dsimp only
  split <;> simp

namespace State.AddsNothingTo

variable {s s₀ : State} {i : Nat} {x y : Exchange}

theorem refl (s : State) : s.AddsNothingTo s where
  live _ y hy hl := ⟨y, hy, hl, rfl⟩
  spent := .refl _
  reaches _ h := h
  window _ n h := ⟨n, h⟩

theorem trans {s₁ : State} (h : s.AddsNothingTo s₁) (h₁ : s₁.AddsNothingTo s₀) : s.AddsNothingTo s₀ where
  live i y hy hl := by
    obtain ⟨x, hx, hlx, hk⟩ := h.live i y hy hl
    obtain ⟨z, hz, hlz, hkz⟩ := h₁.live i x hx hlx
    exact ⟨z, hz, hlz, hkz.trans hk⟩
  spent := h.spent.trans h₁.spent
  reaches a ha := h.reaches a (h₁.reaches a ha)
  window f n hw := by
    obtain ⟨m, hm⟩ := h.window f n hw
    exact h₁.window f m hm

/-! ### Changes outside what is compared -/

theorem of_fields {t : State} (h : s.AddsNothingTo s₀) (he : t.entries = s.entries) (hsp : t.spent = s.spent)
    (hst : t.stations = s.stations) (hh : t.handler = s.handler) : t.AddsNothingTo s₀ where
  live i y hy := h.live i y (by rwa [State.entryAt, he] at hy)
  spent := hsp ▸ h.spent
  reaches a ha := by
    have hs := h.reaches a ha
    simpa only [State.Reaches, State.stationAt, hst] using hs
  window f n hw := h.window f n (hh ▸ hw)

theorem updatePort (h : s.AddsNothingTo s₀) (p : Port) (g : PortState → PortState) : (s.updatePort p g).AddsNothingTo s₀ :=
  h.of_fields (by simp) (by simp) (by simp) (by simp)

theorem raise (h : s.AddsNothingTo s₀) (g : Factor) : (s.raise g).AddsNothingTo s₀ := h.of_fields rfl rfl rfl rfl

theorem countPort (h : s.AddsNothingTo s₀) (p : Port) (c : PortCounter) : (s.countPort p c).AddsNothingTo s₀ :=
  h.of_fields (by simp) (by simp) (by simp) (by simp)

theorem settleDSettings (h : s.AddsNothingTo s₀) : s.settleDSettings.AddsNothingTo s₀ :=
  h.of_fields (by simp) (by simp) (by simp) (by simp)

theorem withdrawFrame (h : s.AddsNothingTo s₀) : s.withdrawFrame.AddsNothingTo s₀ :=
  h.of_fields (by simp) (by simp) (by simp) (by simp)

theorem lineIdle (h : s.AddsNothingTo s₀) : s.lineIdle.AddsNothingTo s₀ :=
  h.of_fields (by simp) (by simp) (by simp) (by simp)

theorem setLine (h : s.AddsNothingTo s₀) (l : Line) : ({ s with line := l } : State).AddsNothingTo s₀ :=
  h.of_fields rfl rfl rfl rfl

theorem setOrder (h : s.AddsNothingTo s₀) (o : List Nat) : ({ s with order := o } : State).AddsNothingTo s₀ :=
  h.of_fields rfl rfl rfl rfl

theorem setMode (h : s.AddsNothingTo s₀) (m : Mode) : ({ s with mode := m } : State).AddsNothingTo s₀ :=
  h.of_fields rfl rfl rfl rfl

theorem setHandler (h : s.AddsNothingTo s₀) {k : Handler} (hk : ∀ f n, k ≠ .window f n) :
    ({ s with handler := k } : State).AddsNothingTo s₀ :=
  ⟨h.live, h.spent, h.reaches, fun f n hw => absurd hw (hk f n)⟩

theorem silence (h : s.AddsNothingTo s₀) : s.silence.AddsNothingTo s₀ := h.setHandler nofun

theorem sendAnswer (h : s.AddsNothingTo s₀) (m : AnswerMark) (g : FrameRecord) : (s.sendAnswer m g).AddsNothingTo s₀ :=
  (h.updatePort .u _).setHandler nofun

theorem beginTaking (h : s.AddsNothingTo s₀) (f : FrameRecord) : (s.beginTaking f).AddsNothingTo s₀ :=
  (h.updatePort .u _).setHandler nofun

theorem forgetMemory (h : s.AddsNothingTo s₀) : s.forgetMemory.AddsNothingTo s₀ := h.of_fields rfl rfl rfl rfl

/-! ### Station records -/

/-- A change of a record that leaves it with the reach it had. -/
theorem updateStation (h : s.AddsNothingTo s₀) (a : Nat) {g : StationRecord → StationRecord}
    (hg : (s.stationAt a).side = .downstream ∨ (s.stationAt a).side = .unknown →
      (g (s.stationAt a)).side = .downstream ∨ (g (s.stationAt a)).side = .unknown) :
    (s.updateStation a g).AddsNothingTo s₀ where
  live i y hy := h.live i y (by simpa [State.entryAt] using hy)
  spent := by simpa using h.spent
  reaches b hb := by
    obtain ⟨hst, hside⟩ := h.reaches b hb
    refine ⟨hst, ?_⟩
    rcases s.stationAt_updateStation_or a b g with he | ⟨rfl, -, he⟩ <;> rw [he]
    · exact hside
    · exact hg hside
  window f n hw := h.window f n (by simpa using hw)

theorem countStation (h : s.AddsNothingTo s₀) (c : StationCounter) (a : Nat) : (s.countStation c a).AddsNothingTo s₀ :=
  h.updateStation a id

theorem setLevel (h : s.AddsNothingTo s₀) (a level : Nat) : (s.setLevel a level).AddsNothingTo s₀ := by
  have hs := h.updateStation a (g := fun r => { r with level := level }) id
  unfold State.setLevel
  split
  · dsimp only
    split
    · exact hs.raise _
    · exact hs
  · exact h

theorem advanceLevel (h : s.AddsNothingTo s₀) (a : Nat) : (s.advanceLevel a).AddsNothingTo s₀ := h.setLevel a _

theorem learnDownstream (h : s.AddsNothingTo s₀) (a : Nat) : (s.learnDownstream a).AddsNothingTo s₀ := by
  unfold State.learnDownstream
  split
  · exact h
  split
  · exact h.raise _
  · have hs := h.updateStation a (g := fun r => { r with side := .downstream, aliasAddr := a }) fun _ => .inl rfl
    exact hs.raise _

/-! ### Entries and spent keys -/

/-- An exchange written in the place of a live one with its key. -/
theorem setEntry (h : s.AddsNothingTo s₀) (hx : s₀.entryAt i = some x) (hl : x.isLive = true) (hk : y.key = x.key) :
    (s.setEntry i y).AddsNothingTo s₀ where
  live j z hz hlz := by
    by_cases hj : j = i
    · subst hj
      rcases s.entryAt_setEntry_or j j y with he | he <;> rw [he] at hz
      · cases hz
        exact ⟨x, hx, hl, hk.symm⟩
      · exact h.live j z hz hlz
    · refine h.live j z ?_ hlz
      simpa [State.entryAt, State.setEntry, List.getD_eq_getElem?_getD, Ne.symm hj] using hz
  spent := h.spent
  reaches := h.reaches
  window := h.window

theorem freeEntry (h : s.AddsNothingTo s₀) (i : Nat) : (s.freeEntry i).AddsNothingTo s₀ where
  live j y hy := by
    rw [s.entryAt_freeEntry i j] at hy
    split at hy
    · cases hy
    · exact h.live j y hy
  spent := h.spent
  reaches := h.reaches
  window := h.window

/-- A change of every entry that makes no exchange live and keeps the keys of those that are. -/
theorem mapEntries (h : s.AddsNothingTo s₀) {g : Option Exchange → Option Exchange} (hnone : g none = none)
    (hg : ∀ x y, g (some x) = some y → y.isLive = true → x.isLive = true ∧ x.key = y.key) :
    ({ s with entries := s.entries.map g } : State).AddsNothingTo s₀ where
  live j y hy hl := by
    have hj : g (s.entryAt j) = some y := (s.entryAt_map g hnone j).symm.trans hy
    cases hx : s.entryAt j with
    | none => rw [hx, hnone] at hj; cases hj
    | some x =>
      obtain ⟨hlx, hk⟩ := hg x y (hx ▸ hj) hl
      obtain ⟨z, hz, hlz, hkz⟩ := h.live j x hx hlx
      exact ⟨z, hz, hlz, hkz.trans hk⟩
  spent := h.spent
  reaches := h.reaches
  window := h.window

theorem setSpent (h : s.AddsNothingTo s₀) {l : List Key} (hl : l.Sublist s.spent) :
    ({ s with spent := l } : State).AddsNothingTo s₀ :=
  ⟨h.live, hl.trans h.spent, h.reaches, h.window⟩

theorem removeSpent (h : s.AddsNothingTo s₀) (k : Key) : (s.removeSpent k).AddsNothingTo s₀ := h.setSpent List.filter_sublist

/-! ### Sending and settlement (R44 to R47, R117, R121 to R129) -/

section exchange

variable (hx : s₀.entryAt i = some x) (hl : x.isLive = true)
include hx hl

theorem sendAttempt (h : s.AddsNothingTo s₀) (a : Nat) : (s.sendAttempt i x a).AddsNothingTo s₀ := by
  have hset := h.setEntry (y := { x with phase := .onLine, attempts := x.attempts + 1 }) hx hl rfl
  exact (hset.updatePort .d _).setLine _

theorem settle (h : s.AddsNothingTo s₀) (hk : y.key = x.key) (o : HeldOutcome) : (s.settle i y o).AddsNothingTo s₀ := by
  have hlearn : (if y.discovery && o.kind.teaches then s.learnDownstream y.key.addr else s).AddsNothingTo s₀ := by
    split
    · exact h.learnDownstream _
    · exact h
  unfold State.settle
  dsimp only
  split
  · have hfree := hlearn.freeEntry i
    unfold State.settlePosted
    dsimp only
    split
    · exact hfree
    · exact (hfree.countStation _ _).raise _
  · exact (hlearn.setEntry hx hl (by exact hk)).setOrder _

theorem settleSilent (h : s.AddsNothingTo s₀) (hk : y.key = x.key) : (s.settleSilent i y).AddsNothingTo s₀ :=
  settle hx hl (h.countStation _ _) hk _

theorem actOnAnswer (h : s.AddsNothingTo s₀) (hk : y.key = x.key) (f : FrameRecord) : (s.actOnAnswer i y f).AddsNothingTo s₀ := by
  unfold State.actOnAnswer State.farTurnedAway
  split
  · split
    · exact h.setEntry hx hl (by exact hk)
    · exact settleSilent hx hl h hk
  · exact settle hx hl h hk _

omit hl in
theorem takeMatching (h : s.AddsNothingTo s₀) (f : FrameRecord) : (s.takeMatching i x f).AddsNothingTo s₀ := by
  have key : ∀ y : Exchange, y.phase = x.phase → y.key = x.key → ∀ t : State, t.AddsNothingTo s₀ →
      (if y.phase = .withdrawn then t.freeEntry i else t.actOnAnswer i y f).AddsNothingTo s₀ := fun y hp hk t ht => by
    split
    · exact ht.freeEntry i
    · next hn => exact actOnAnswer hx (x.isLive_iff.2 (hp ▸ hn)) ht hk f
  have hlevel := h.withdrawFrame.setLevel x.key.addr (if f.kind = .absent then 8 else 1)
  unfold State.takeMatching
  dsimp only
  split
  · exact (key { x with attempts := x.attempts - 1 } rfl rfl _ hlevel).lineIdle
  · exact (key x rfl rfl _ hlevel).lineIdle

omit hl in
theorem timeoutEffect (h : s.AddsNothingTo s₀) (a : Nat) : (s.timeoutEffect i x a).AddsNothingTo s₀ := by
  have ht := (h.countStation .timeouts x.key.addr).advanceLevel x.key.addr
  unfold State.timeoutEffect
  dsimp only
  split
  · exact (ht.freeEntry i).lineIdle
  · next hn =>
    have hl := x.isLive_iff.2 hn
    unfold State.afterTimeout
    split
    · split
      · exact sendAttempt hx hl ht a
      · exact (ht.setEntry (y := { x with phase := .queued }) hx hl rfl).lineIdle
    · exact (settleSilent hx hl ht rfl).lineIdle

end exchange

/-! ### The Dispatcher and the timers (chapters 3, 6 and 7) -/

theorem waitedTimeout (s : State) : s.waitedTimeout.AddsNothingTo s := by
  rcases s.waitedTimeout_cases with he | ⟨i, a, x, -, hx, he⟩ <;> rw [he]
  · exact refl s
  · exact timeoutEffect hx (refl s) a

theorem replyExpiry (s : State) : s.replyExpiry.AddsNothingTo s := by
  unfold State.replyExpiry
  split
  case h_1 i a t hl =>
    split
    · exact (refl s).setLine _
    · split
      · next x hx => exact timeoutEffect hx (refl s) a
      · exact (refl s).lineIdle
  all_goals exact refl s

theorem dispatchAnswer (f : FrameRecord) (s : State) : (s.dispatchAnswer f).AddsNothingTo s := by
  have hcount := (refl s).countPort .d .unexpected
  have tested : ∀ i addr,
      State.AddsNothingTo
        (match s.entryAt i with
        | some x =>
          if answerMatches x addr f then s.takeMatching i x f else (s.countPort .d .unexpected).waitedTimeout
        | none => s.countPort .d .unexpected) s := fun i addr => by
    split
    · next x hx =>
      split
      · exact takeMatching hx (refl s) f
      · exact (waitedTimeout _).trans hcount
    · exact hcount
  unfold State.dispatchAnswer
  split
  · exact hcount
  · exact tested _ _
  · exact tested _ _

theorem dTakeNow (s : State) : s.dTakeNow.AddsNothingTo s := by
  have hempty : s.emptyDSlot.AddsNothingTo s := (refl s).updatePort .d _
  unfold State.dTakeNow
  split
  · split
    · split
      · exact (waitedTimeout _).trans (hempty.countPort .d .unexpected)
      · exact (dispatchAnswer _ _).trans hempty
    · exact refl s
  · exact refl s

theorem select (s : State) : s.select.AddsNothingTo s := by
  unfold State.select
  split
  · split
    · next i hp =>
      split
      · next x hx =>
        have hlive : x.isLive = true := x.isLive_iff.2 (by rw [State.isQueued_of_pick hp hx]; nofun)
        exact sendAttempt hx hlive (refl s) _
      · exact refl s
    · exact refl s
  · exact refl s

theorem reAskExpiry (i : Nat) (s : State) : (s.reAskExpiry i).AddsNothingTo s := by
  unfold State.reAskExpiry
  split
  · next x hx =>
    split
    · next t hp => exact (refl s).setEntry hx (x.isLive_iff.2 (by rw [hp]; nofun)) rfl
    all_goals exact refl s
  · exact refl s

theorem requestGone (s : State) : s.requestGone.AddsNothingTo s := by
  unfold State.requestGone
  split
  · split
    · split
      · exact ((refl s).freeEntry _).lineIdle
      · exact (refl s).setLine _
    · exact (refl s).lineIdle
  all_goals exact refl s

theorem stepStation (h : s.AddsNothingTo s₀) (a : Nat) : (s.stepStation a).AddsNothingTo s₀ := by
  unfold State.stepStation
  split
  · exact h.advanceLevel a
  · exact h

theorem ladderExpiry (s : State) : s.ladderExpiry.AddsNothingTo s := by
  have hall : ∀ (ks : List Nat) (t : State), t.AddsNothingTo s →
      (ks.foldl (fun t k => t.stepStation (k + 1)) t).AddsNothingTo s := fun ks => by
    induction ks with
    | nil => exact fun _ ht => ht
    | cons k ks ih => exact fun t ht => ih _ (ht.stepStation (k + 1))
  have ht := hall (List.range Config.stationCount) s (refl s)
  unfold State.ladderExpiry
  generalize (List.range Config.stationCount).foldl _ s = t at ht ⊢
  exact ht.of_fields rfl rfl rfl rfl

/-! ### Withdrawal, flush, clear, pause (R57, R61, R125, R133) -/

theorem dropWaitingWithdrawn (h : s.AddsNothingTo s₀) : s.dropWaitingWithdrawn.AddsNothingTo s₀ := by
  rcases s.dropWaitingWithdrawn_cases with he | ⟨i, a, x, -, -, -, -, he⟩ <;> rw [he]
  · exact h
  · exact (h.withdrawFrame.freeEntry i).lineIdle

theorem withdrawTable (own : Exchange → Bool) (s : State) : (s.withdrawTable own).AddsNothingTo s :=
  (refl s).mapEntries rfl fun x y hy hl => by
    cases (live_withdrawEntry hy hl).1
    exact ⟨hl, rfl⟩

theorem withdrawExchanges_table (own : Exchange → Bool) (s : State) :
    (s.withdrawExchanges own).AddsNothingTo (s.withdrawTable own) :=
  ((refl _).setOrder _).dropWaitingWithdrawn.settleDSettings

theorem withdrawExchanges (own : Exchange → Bool) (h : s.AddsNothingTo s₀) : (s.withdrawExchanges own).AddsNothingTo s₀ :=
  ((withdrawExchanges_table own s).trans (withdrawTable own s)).trans h

theorem flush (a : Nat) (s : State) : (s.flush a).AddsNothingTo s := by
  rw [s.flush_eq a]
  exact ((refl s).setSpent List.filter_sublist).withdrawExchanges _

theorem clearExchanges (s : State) : s.clearExchanges.AddsNothingTo s := by
  rw [s.clearExchanges_eq]
  exact (((refl s).setSpent (List.nil_sublist _)).setMode .run).withdrawExchanges _

/-- A write that leaves a record's side as it is (R76). -/
theorem storeStation {a : Nat} {side : Side} (hside : (s.stationAt a).side = side) (payload : List Byte) :
    (s.storeStation a side payload).AddsNothingTo s := by
  have hs := (refl s).updateStation a
    (g := fun r =>
      { r with
        side := side, aliasAddr := writtenAlias a side (byteAt payload 1), cls := byteAt payload 2
        permit := byteAt payload 3 == 1 })
    (by simp only [hside, imp_self])
  unfold State.storeStation
  dsimp only
  split
  · exact hs.setLevel a 1
  · exact hs

theorem pauseWithdraw (s : State) : s.pauseWithdraw.AddsNothingTo s := by
  unfold State.pauseWithdraw
  split
  · split
    · next x hx =>
      split
      · next hw =>
        simp only [Bool.and_eq_true, beq_iff_eq] at hw
        have hlive : x.isLive = true := x.isLive_iff.2 (by rw [hw.2]; nofun)
        exact ((refl s).withdrawFrame.setEntry hx hlive (by exact rfl)).lineIdle
      · exact refl s
    · exact refl s
  all_goals exact refl s

theorem pauseFor (d : Nat) (s : State) : (s.pauseFor d).AddsNothingTo s := by
  unfold State.pauseFor
  split
  · exact (refl s).setMode _
  · exact (pauseWithdraw _).trans ((refl s).setMode _)

/-! ### The Request Handler and the Management Unit (chapters 5 and 9) -/

theorem answerRepeat (f : FrameRecord) (i : Nat) (x : Exchange) (s : State) : (s.answerRepeat f i x).AddsNothingTo s := by
  unfold State.answerRepeat
  split
  · exact (((refl s).freeEntry i).countStation _ _).sendAnswer _ _
  all_goals exact (refl s).sendAnswer _ _

theorem refuseBusy (f : FrameRecord) (s : State) : (s.refuseBusy f).AddsNothingTo s :=
  (((refl s).countStation _ _).raise _).sendAnswer _ _

theorem clashCheck (f : FrameRecord) (s : State) : (s.clashCheck f).AddsNothingTo s := by
  unfold State.clashCheck
  split
  · exact (refl s).countPort _ _
  · exact refl s

/-- A SET adds nothing if its effect does not (R161). -/
theorem judgeSet {len : Nat} {fields : List Byte → List Bool} {m : AnswerMark} {effect : List Byte → State → State}
    {f : FrameRecord} (he : ∀ t, (effect f.payload t).AddsNothingTo t) (s : State) :
    (s.judgeSet len fields m effect f).AddsNothingTo s := by
  have hs := (refl s).forgetMemory
  unfold State.judgeSet
  dsimp only
  split
  · exact hs.sendAnswer _ _
  · split
    · exact hs.sendAnswer _ _
    · exact ((he _).trans hs).sendAnswer _ _

theorem writePending (p : Port) (payload : List Byte) (s : State) : (s.writePending p payload).AddsNothingTo s := by
  cases p <;> exact (refl s).of_fields rfl rfl rfl rfl

theorem readAndClear {clear : State → State} (hc : ∀ t, (clear t).AddsNothingTo t) (payload : List Byte) (f : FrameRecord)
    (s : State) : (s.readAndClear clear payload f).AddsNothingTo s := by
  unfold State.readAndClear
  split
  · exact (refl s).sendAnswer _ _
  · have hclear := (hc s.forgetMemory).trans (refl s).forgetMemory
    have hstore : ({ clear s.forgetMemory with memory := some ⟨f.object, f.tag, payload⟩ } : State).AddsNothingTo s :=
      hclear.of_fields rfl rfl rfl rfl
    exact hstore.sendAnswer _ _

theorem clearStationCounters (a : Nat) (s : State) : (s.clearStationCounters a).AddsNothingTo s := (refl s).updateStation a id

theorem clearPortCounters (s : State) : s.clearPortCounters.AddsNothingTo s := ((refl s).updatePort .u _).updatePort .d _

theorem decideManagementRequest (f : FrameRecord) (s : State) : (s.decideManagementRequest f).AddsNothingTo s := by
  have hs := (refl s).forgetMemory
  unfold State.decideManagementRequest
  dsimp only
  split
  · exact hs.sendAnswer _ _
  · split
    · exact hs.sendAnswer _ _
    · exact hs.sendAnswer _ _

/-! ### The ports (chapter 2) and time -/

theorem reportLost (p : Port) (s : State) : (s.reportLost p).AddsNothingTo s := by
  cases p with
  | u =>
    unfold State.reportLost
    dsimp only
    split
    · exact (refl s).silence
    all_goals exact refl s
  | d => exact waitedTimeout s

theorem loseFrame (p : Port) (c : PortCounter) (s : State) : (s.loseFrame p c).AddsNothingTo s :=
  (reportLost p _).trans (((refl s).updatePort p _).countPort p c)

theorem endFrame (p : Port) (chars : List Byte) (e : Option CharError) (s : State) :
    (s.endFrame p chars e).AddsNothingTo s := by
  unfold State.endFrame State.storeFrame
  split
  · exact loseFrame p _ s
  · split
    · exact loseFrame p _ s
    · exact ((refl s).updatePort p _).countPort p _

theorem deliverCharacter (p : Port) (ch : RxChar) (s : State) : (s.deliverCharacter p ch).AddsNothingTo s := by
  have hs := (refl s).updatePort p fun q => { q with receiver := .looking, sinceLast := some 0 }
  unfold State.deliverCharacter
  dsimp only
  split
  · unfold State.huntCharacter
    split
    · exact hs.updatePort p _
    · exact hs.countPort p _
  · unfold State.collectCharacter
    dsimp only
    split
    · exact (loseFrame p _ _).trans hs
    split
    · exact (endFrame p _ _ _).trans hs
    · exact hs.updatePort p _

theorem lineEvent (p : Port) (e : LineEvent) (s : State) : (s.lineEvent p e).AddsNothingTo s := by
  cases e with
  | startEdge =>
    unfold State.lineEvent State.startEdge
    exact (refl s).updatePort p _
  | samples levels =>
    unfold State.lineEvent State.endCharacter
    dsimp only
    split
    · exact (refl s).updatePort p _
    · split
      · exact (refl s).updatePort p _
      · exact deliverCharacter p _ s

theorem gapExpiry (p : Port) (s : State) : (s.gapExpiry p).AddsNothingTo s := by
  unfold State.gapExpiry
  split
  · exact loseFrame p _ s
  · exact loseFrame p _ s
  all_goals exact refl s

theorem endSending (p : Port) (s : State) : (s.endSending p).AddsNothingTo s :=
  ((refl s).updatePort p _).countPort p _

theorem tick (s : State) : s.tick.AddsNothingTo s := by
  have hentries := (refl s).mapEntries (g := Option.map Exchange.tick) rfl fun x y hy hl => by
    cases hy
    exact ⟨x.isLive_tick ▸ hl, rfl⟩
  refine ⟨hentries.live, hentries.spent, hentries.reaches, fun f n hw => ?_⟩
  have hw : s.handler.tick = .window f n := hw
  cases hh : s.handler with
  | window g m =>
    rw [hh] at hw
    cases hw
    exact ⟨m, rfl⟩
  | _ => rw [hh] at hw; cases hw

end State.AddsNothingTo

end Sys2Proof.Machine
end

section
/-! Every step keeps live exchanges distinct, the Spent List sound and the stations of both in reach (O57). -/

namespace Sys2Proof.Machine

/-! ### Reset (R63) -/

theorem State.restarted_exchangesDistinct (straps : Straps) (s : State) : (s.restarted straps).ExchangesDistinct :=
  have ⟨_, hkeys, hspent, hstations, _⟩ := s.exchanges_restarted straps
  ⟨hkeys, hspent, hstations⟩

namespace State.ExchangesDistinct

variable {s : State} {f : FrameRecord} {i : Nat} {x : Exchange}

/-! ### What adds to the tables: an admission and a discarded DONE (R43, R55) -/

theorem setSpent (h : s.ExchangesDistinct) {l : List Key} (hl : l.Sublist s.spent) :
    ({ s with spent := l } : State).ExchangesDistinct :=
  h.of_addsNothing ((AddsNothingTo.refl s).setSpent hl)

/-- An exchange with a key that is neither live nor spent, of a station that is reached. -/
theorem setEntry_of_new (h : s.ExchangesDistinct) (hlive : ∀ j y, s.entryAt j = some y → y.isLive = true → y.key ≠ x.key)
    (hspent : x.key ∉ s.spent) (hreach : x.key.kind ≠ .note → s.Reaches x.key.addr) (i : Nat) :
    (s.setEntry i x).ExchangesDistinct := by
  have hold : ∀ j y, (s.setEntry i x).entryAt j = some y → (j = i ∧ y = x) ∨ s.entryAt j = some y := fun j y hy => by
    by_cases hj : j = i
    · subst hj
      rcases s.entryAt_setEntry_or j j x with he | he <;> rw [he] at hy
      · cases hy
        exact .inl ⟨rfl, rfl⟩
      · exact .inr hy
    · exact .inr (by simpa [State.entryAt, State.setEntry, List.getD_eq_getElem?_getD, Ne.symm hj] using hy)
  obtain ⟨hkeys, ⟨hlen, hnodup, hset⟩, hstations, hwindow⟩ := h
  refine ⟨fun j k y z hy hz hly hlz hk => ?_, ⟨hlen, hnodup, fun k hk => ?_⟩, fun j y hy hl hn => ?_, hwindow⟩
  · rcases hold j y hy with ⟨rfl, rfl⟩ | hy' <;> rcases hold k z hz with ⟨rfl, rfl⟩ | hz'
    · rfl
    · exact absurd hk.symm (hlive k z hz' hlz)
    · exact absurd hk (hlive j y hy' hly)
    · exact hkeys j k y z hy' hz' hly hlz hk
  · obtain ⟨hkind, hnone⟩ := hset k hk
    refine ⟨hkind, fun j y hy hl => ?_⟩
    rcases hold j y hy with ⟨rfl, rfl⟩ | hy
    · exact fun he => hspent (he ▸ hk)
    · exact hnone j y hy hl
  · rcases hold j y hy with ⟨rfl, rfl⟩ | hy
    · exact hreach hn
    · exact hstations j y hy hl hn

/-- A request is admitted when no live entry holds its key, and of a station only when it is reached (R43, R101). -/
theorem admitInto (h : s.ExchangesDistinct) (hnone : s.liveEntry f.key = none) (hreach : f.kind ≠ .note → s.Reaches f.addr)
    (i : Nat) : (s.admitInto i f).ExchangesDistinct := by
  have hset : ∀ disc cls o, ({ (s.removeSpent f.key).setEntry i (newExchange f disc cls) with order := o } :
      State).ExchangesDistinct := fun disc cls o => by
    have hnew : ((s.removeSpent f.key).setEntry i (newExchange f disc cls)).ExchangesDistinct :=
      setEntry_of_new (h.setSpent List.filter_sublist) (fun j y hy hl => s.liveEntry_none f.key hnone j y hy hl)
        (by simp [newExchange]) hreach i
    exact hnew.of_addsNothing ((AddsNothingTo.refl _).setOrder o)
  unfold State.admitInto
  dsimp only
  split
  · exact hset _ _ _
  · exact (hset _ _ _).of_addsNothing ((AddsNothingTo.refl _).countStation _ _)

/-- A key that is neither spent nor live joins the Spent List (R54, R55). -/
theorem addSpent (h : s.ExchangesDistinct) {k : Key} (hk : k.kind = .set) (hnew : k ∉ s.spent)
    (hlive : ∀ i x, s.entryAt i = some x → x.isLive = true → x.key ≠ k) : (s.addSpent k).ExchangesDistinct := by
  obtain ⟨hkeys, ⟨hlen, hnodup, hset⟩, hstations⟩ := h
  have hsub : (if s.spent.length < Config.spentCount then s.spent else s.spent.drop 1).Sublist s.spent := by
    split
    · exact .refl _
    · exact List.drop_sublist 1 _
  refine ⟨hkeys, ⟨?_, ?_, fun j hj => ?_⟩, hstations⟩
  · simp only [State.addSpent, List.length_append, List.length_singleton, Config.spentCount] at hlen ⊢
    split
    · omega
    · rw [List.length_drop]
      omega
  · exact (hsub.nodup hnodup).append (List.nodup_singleton k) (List.disjoint_singleton.2 fun hj => hnew (hsub.subset hj))
  · rcases List.mem_append.1 hj with hj | hj
    · exact hset j (hsub.subset hj)
    · cases List.mem_singleton.1 hj
      exact ⟨hk, hlive⟩

/-- The key of a READY exchange that is discarded is live no more, and was not spent while it was (R54, R55). -/
theorem discardOutcome (h : s.ExchangesDistinct) (hx : s.entryAt i = some x) (hl : x.isLive = true) (o : HeldOutcome) :
    (s.discardOutcome i x o).ExchangesDistinct := by
  have hfree : (((s.freeEntry i).countStation .discards x.key.addr).raise .discarded).ExchangesDistinct :=
    h.of_addsNothing ((((AddsNothingTo.refl s).freeEntry i).countStation _ _).raise _)
  unfold State.discardOutcome
  dsimp only
  split
  · next hset =>
    refine hfree.addSpent hset.1 (fun hk => ?_) fun j y hy hly hk => ?_
    · obtain ⟨-, -, hspent⟩ := h.spent
      have hk : x.key ∈ s.spent := by simpa using hk
      exact (hspent x.key hk).2 i x hx hl rfl
    · have hy : (s.freeEntry i).entryAt j = some y := by simpa [State.entryAt] using hy
      rw [s.entryAt_freeEntry i j] at hy
      split at hy
      · cases hy
      · next hj => exact hj (h.keys j i y x hy hx hly hl hk)
  · exact hfree

/-! ### New requests and the sides (R95 to R101) -/

/-- A new request is admitted only of a station that is reached (R101). -/
theorem matchOrAdmit (h : s.ExchangesDistinct) (hreach : s.liveEntry f.key = none → f.kind ≠ .note → s.Reaches f.addr) :
    (s.matchOrAdmit f).ExchangesDistinct := by
  have hs := AddsNothingTo.refl s
  have hnew : s.liveEntry f.key = none → (s.judgeNew f).ExchangesDistinct := fun hnone => by
    unfold State.judgeNew
    split
    · exact h.of_addsNothing (hs.sendAnswer _ _)
    split
    · exact h.of_addsNothing ((hs.removeSpent _).sendAnswer _ _)
    split
    · exact h.of_addsNothing (.refuseBusy f s)
    split
    · exact h.of_addsNothing (.refuseBusy f s)
    · next i _ => exact (h.admitInto hnone (hreach hnone) i).of_addsNothing ((AddsNothingTo.refl _).sendAnswer _ _)
  unfold State.matchOrAdmit
  split
  · next i hi =>
    obtain ⟨x, hx, -, -⟩ := s.liveEntry_some f.key i hi
    rw [hx]
    exact h.of_addsNothing (.answerRepeat f i x s)
  · next hnone => exact hnew hnone

theorem openWindow (h : s.ExchangesDistinct) (hk : f.kind ≠ .note) (hr : s.Reaches f.addr) :
    (s.openWindow f).ExchangesDistinct :=
  ⟨h.keys, h.spent, h.stations.1, fun g n hw => by cases hw; exact ⟨hk, hr⟩⟩

theorem decideUnknown (h : s.ExchangesDistinct) (hk : f.kind ≠ .note) (hr : s.Reaches f.addr) :
    (s.decideUnknown f).ExchangesDistinct := by
  have hs := AddsNothingTo.refl s
  unfold State.decideUnknown
  split
  · exact h.matchOrAdmit fun _ _ => hr
  split
  · exact h.of_addsNothing hs.silence
  split
  · exact h.of_addsNothing (hs.raise _).silence
  · exact h.openWindow hk hr

theorem decideStation (h : s.ExchangesDistinct) (hk : f.kind ≠ .note) : (s.decideStation f).ExchangesDistinct := by
  have hs := AddsNothingTo.refl s
  unfold State.decideStation
  split
  · next ha =>
    split
    · next hside => exact h.decideUnknown hk ⟨ha, .inr hside⟩
    · exact h.of_addsNothing hs.silence
    · next hside => exact h.matchOrAdmit fun _ _ => ⟨ha, .inl hside⟩
    · exact h.of_addsNothing (hs.sendAnswer _ _)
    · exact h.of_addsNothing hs.silence
  · exact h.of_addsNothing hs.silence

/-- A NOTE is of no station (R94). -/
theorem decideNote (h : s.ExchangesDistinct) (hk : f.kind = .note) : (s.decideNote f).ExchangesDistinct := by
  have hs := AddsNothingTo.refl s
  unfold State.decideNote
  split
  · split
    · exact h.of_addsNothing hs.silence
    · next hlive =>
      have hnone : s.liveEntry f.key = none := by simpa using hlive
      split
      · next i _ =>
        exact (h.admitInto hnone (absurd hk) i).of_addsNothing (AddsNothingTo.refl _).silence
      · exact h.of_addsNothing (hs.raise _).silence
  · exact h.of_addsNothing hs.silence

/-! ### A station that is reached no more (R77, R80) -/

/-- A flush leaves no live exchange of its station (R57). -/
theorem flush_of_changed {t : State} {a : Nat} (h : s.ExchangesDistinct) (hw : ∀ g n, s.handler ≠ .window g n)
    (he : t.entries = s.entries) (hsp : t.spent = s.spent) (hh : t.handler = s.handler)
    (hst : ∀ b, b ≠ a → t.stationAt b = s.stationAt b) : (t.flush a).ExchangesDistinct := by
  obtain ⟨hkeys, ⟨hlen, hnodup, hspent⟩, hlive, -⟩ := h.setSpent (l := s.spent.filter fun k => k.addr ≠ a) List.filter_sublist
  have htable : (State.withdrawTable (·.belongsTo a)
      { t with spent := t.spent.filter fun k => k.addr ≠ a }).ExchangesDistinct := by
    have hentry : ∀ i x, (t.withdrawTable (·.belongsTo a)).entryAt i = some x → x.isLive = true →
        s.entryAt i = some x ∧ x.belongsTo a = false := fun i x hx hl => by
      rw [t.entryAt_withdrawTable, State.entryAt, he] at hx
      exact live_withdrawEntry hx hl
    refine ⟨fun i j x y hx hy hlx hly => hkeys i j x y (hentry i x hx hlx).1 (hentry j y hy hly).1 hlx hly,
      ⟨hsp ▸ hlen, hsp ▸ hnodup, fun k hk => ?_⟩, fun i x hx hl hn => ?_, fun g n hg => absurd (hh ▸ hg) (hw g n)⟩
    · obtain ⟨hset, hnone⟩ := hspent k (hsp ▸ hk)
      exact ⟨hset, fun i x hx hl => hnone i x (hentry i x hx hl).1 hl⟩
    · obtain ⟨hold, hb⟩ := hentry i x hx hl
      have hother : x.key.addr ≠ a := fun ha => by simp [Exchange.belongsTo, hn, ha] at hb
      have hreach : s.Reaches x.key.addr := hlive i x hold hl hn
      show t.Reaches x.key.addr
      simpa only [State.Reaches, hst _ hother] using hreach
  rw [t.flush_eq a]
  exact htable.of_addsNothing (.withdrawExchanges_table _ _)

theorem learnLocal (h : s.ExchangesDistinct) (hw : ∀ g n, s.handler ≠ .window g n) (a : Nat) :
    (s.learnLocal a).ExchangesDistinct := by
  unfold State.learnLocal
  split
  · have hflush : ((s.updateStation a fun r => { r with side := .localSide }).flush a).ExchangesDistinct :=
      h.flush_of_changed hw (by simp) (by simp) (by simp) fun b hb => s.stationAt_updateStation_of_ne _ hb
    exact hflush.of_addsNothing ((AddsNothingTo.refl _).raise _)
  · exact h

theorem decideAnswer (h : s.ExchangesDistinct) (hw : ∀ g n, s.handler ≠ .window g n) (before : Handler) :
    (s.decideAnswer before f).ExchangesDistinct := by
  unfold State.decideAnswer
  split
  · split
    · exact (h.learnLocal hw _).of_addsNothing (AddsNothingTo.refl _).silence
    · exact h.of_addsNothing (AddsNothingTo.refl s).silence
  all_goals exact h.of_addsNothing (AddsNothingTo.clashCheck f s).silence

theorem writeStation (h : s.ExchangesDistinct) (hw : ∀ g n, s.handler ≠ .window g n) (a : Nat) (side : Side)
    (payload : List Byte) : (s.writeStation a side payload).ExchangesDistinct := by
  unfold State.writeStation
  split
  · exact h.flush_of_changed hw (by simp) (by simp) (by simp) fun b hb => s.stationAt_storeStation_of_ne side payload hb
  · next hr =>
    have hside : (s.stationAt a).side = side := by
      simp only [StationRecord.routingChange, Bool.or_eq_true, not_or, bne_iff_ne, ne_eq, not_not] at hr
      exact hr.1
    exact h.of_addsNothing (.storeStation hside payload)

theorem decideStationWrite (h : s.ExchangesDistinct) (hw : ∀ g n, s.handler ≠ .window g n) :
    (s.decideStationWrite f).ExchangesDistinct := by
  have hs := (AddsNothingTo.refl s).forgetMemory
  unfold State.decideStationWrite State.judgeSet
  dsimp only
  split
  · exact h.of_addsNothing (hs.sendAnswer _ _)
  split
  · exact h.of_addsNothing (hs.sendAnswer _ _)
  split
  · exact h.of_addsNothing (hs.sendAnswer _ _)
  · exact ((h.of_addsNothing hs).writeStation hw _ _ _).of_addsNothing ((AddsNothingTo.refl _).sendAnswer _ _)

/-! ### Taking a frame (R26, R92 to R94) -/

/-- The decision that goes with a frame's way of being taken, once the handler is DECIDING. -/
theorem decide (h : s.ExchangesDistinct) (hw : ∀ g n, s.handler ≠ .window g n) {m : Nat} {t : Taking}
    (ht : takingOf m f = t) (before : Handler) : (s.decide t before f).ExchangesDistinct := by
  have hreq : t ≠ .uAnswerFrame → t ≠ .note → f.kind.isRequest = true ∧ f.kind ≠ .note := ht ▸ request_of_takingOf
  have of_set : ∀ {len fields mark effect}, (∀ t, (effect f.payload t).AddsNothingTo t) →
      (s.judgeSet len fields mark effect f).ExchangesDistinct := fun he => h.of_addsNothing (.judgeSet he s)
  cases t with
  | stationRequest => exact h.decideStation (hreq nofun nofun).2
  | note => exact h.decideNote (kind_of_takingOf_note ht)
  | uAnswerFrame => exact h.decideAnswer hw before
  | factorAck => exact of_set fun t => (AddsNothingTo.refl t).of_fields rfl rfl rfl rfl
  | factorLevels => exact of_set fun t => (AddsNothingTo.refl t).of_fields rfl rfl rfl rfl
  | uPort => exact of_set fun t => .writePending .u _ t
  | dPort => exact of_set fun t => .writePending .d _ t
  | timing => exact of_set fun t => (AddsNothingTo.refl t).of_fields rfl rfl rfl rfl
  | policy => exact of_set fun t => (AddsNothingTo.refl t).of_fields rfl rfl rfl rfl
  | pause => unfold State.decide State.decidePause; exact of_set fun t => .pauseFor _ t
  | flush => unfold State.decide State.decideFlush; exact of_set fun t => .flush _ t
  | clear => unfold State.decide State.decideClear; exact of_set fun t => .clearExchanges t
  | restart => unfold State.decide State.decideRestart; exact of_set fun t => .refl t
  | station => exact h.decideStationWrite hw
  | countersReadClear => exact h.of_addsNothing (.readAndClear (.clearStationCounters _) _ f s)
  | portCountersReadClear => exact h.of_addsNothing (.readAndClear .clearPortCounters _ f s)
  | managementRequest => exact h.of_addsNothing (.decideManagementRequest f s)

theorem beginTaking (h : s.ExchangesDistinct) (f : FrameRecord) : (s.beginTaking f).ExchangesDistinct :=
  h.of_addsNothing ((AddsNothingTo.refl s).beginTaking f)

theorem uTakeNow (h : s.ExchangesDistinct) : s.uTakeNow.ExchangesDistinct := by
  unfold State.uTakeNow
  split
  · next f _ => exact (h.beginTaking f).decide nofun rfl s.handler
  · exact h

theorem takeAs (h : s.ExchangesDistinct) (t : Taking) : (s.takeAs t (State.decide t s.handler)).ExchangesDistinct := by
  unfold State.takeAs
  split
  · next f _ =>
    split
    · next ht => exact (h.beginTaking f).decide nofun ht s.handler
    · exact h
  · exact h

theorem takeStored (h : s.ExchangesDistinct) (p : Port) : (s.takeStored p).ExchangesDistinct := by
  cases p with
  | u => exact h.uTakeNow
  | d => exact h.of_addsNothing (.dTakeNow s)

/-- A window that has run out sends on the request it held, whose station is reached (R100). -/
theorem windowExpiry (h : s.ExchangesDistinct) : s.windowExpiry.ExchangesDistinct := by
  unfold State.windowExpiry
  split
  · next f n hh =>
    obtain ⟨hk, hreach⟩ := h.stations.2 f n hh
    split
    · exact ⟨h.keys, h.spent, h.stations.1, fun g m hw => by cases hw; exact ⟨hk, hreach⟩⟩
    · have hs : ({ s with handler := .deciding f } : State).AddsNothingTo s := (AddsNothingTo.refl s).setHandler nofun
      exact (h.of_addsNothing hs).matchOrAdmit fun _ _ => hreach
  all_goals exact h

/-! ### Commands and steps -/

theorem collectionExpiry (h : s.ExchangesDistinct) (i : Nat) : (s.collectionExpiry i).ExchangesDistinct := by
  unfold State.collectionExpiry
  split
  · next x hx =>
    split
    · next o t hp => exact h.discardOutcome hx (x.isLive_iff.2 (by rw [hp]; nofun)) o
    all_goals exact h
  · exact h

theorem reportSent (h : s.ExchangesDistinct) (p : Port) (straps : Straps) : (s.reportSent p straps).ExchangesDistinct := by
  have hs := AddsNothingTo.refl s
  cases p with
  | u =>
    unfold State.reportSent State.answerGone
    dsimp only
    split
    · exact h.of_addsNothing hs.silence
    · exact h.of_addsNothing (hs.updatePort .u _).silence
    · have hdue : ({ s with dChangeDue := true } : State).AddsNothingTo s := hs.of_fields rfl rfl rfl rfl
      exact h.of_addsNothing hdue.settleDSettings.silence
    · exact (s.restarted_exchangesDistinct straps).of_addsNothing ((AddsNothingTo.refl _).of_fields rfl rfl rfl rfl)
    all_goals exact h
  | d => exact h.of_addsNothing (.requestGone s)

/-- A choice between two states that meet the condition meets it. -/
theorem ite {c : Prop} [Decidable c] {t u : State} (ht : t.ExchangesDistinct) (hu : u.ExchangesDistinct) :
    (if c then t else u).ExchangesDistinct := by
  split <;> assumption

/-- Every command keeps the condition. -/
theorem exec (h : s.ExchangesDistinct) : ∀ c : Instr, ∃ t, exec c s = .next t ∧ t.ExchangesDistinct
  | .resetNLow => ⟨_, rfl, h.of_addsNothing ((AddsNothingTo.refl s).of_fields rfl rfl rfl rfl)⟩
  | .resetEnd straps => ⟨_, rfl, s.restarted_exchangesDistinct straps⟩
  | .characterReceived p e => ⟨_, rfl, (h.takeStored p).of_addsNothing (.lineEvent p e _)⟩
  | .gapLimitExpiry p => ⟨_, rfl, ite (h.takeStored p) ((h.takeStored p).of_addsNothing (.gapExpiry p _))⟩
  | .transmitStart p =>
    ⟨_, rfl, ite ((h.takeStored p).of_addsNothing ((AddsNothingTo.refl _).updatePort p _)) (h.takeStored p)⟩
  | .frameSent p straps => ⟨_, rfl, ite ((h.of_addsNothing (.endSending p s)).reportSent p straps) h⟩
  | .deafPeriodEnd => ⟨_, rfl, ite (h.of_addsNothing ((AddsNothingTo.refl s).of_fields rfl rfl rfl rfl)) h⟩
  | .discoveryWindowExpiry => ⟨_, rfl, ite (by split; exacts [h.uTakeNow, h.windowExpiry]) h⟩
  | .selection => ⟨_, rfl, (h.takeStored .d).of_addsNothing (.select _)⟩
  | .dAnswerFrame => ⟨_, rfl, ite (h.takeStored .d) h⟩
  | .foreignRequest => ⟨_, rfl, ite (h.takeStored .d) h⟩
  | .replyTimeout => ⟨_, rfl, ite ((h.takeStored .d).of_addsNothing (.replyExpiry _)) h⟩
  | .reAskExpiry i => ⟨_, rfl, ite (h.of_addsNothing (.reAskExpiry i s)) h⟩
  | .collectionExpiry i => ⟨_, rfl, ite (h.collectionExpiry i) h⟩
  | .pauseTimerExpiry =>
    ⟨_, rfl, ite (by split; exacts [h.of_addsNothing (((AddsNothingTo.refl s).setMode _).raise _), h]) h⟩
  | .ladderStep => ⟨_, rfl, ite (h.of_addsNothing (.ladderExpiry s)) h⟩
  | .stationRequest => ⟨_, rfl, h.takeAs .stationRequest⟩
  | .note => ⟨_, rfl, h.takeAs .note⟩
  | .uAnswerFrame => ⟨_, rfl, h.takeAs .uAnswerFrame⟩
  | .factorAck => ⟨_, rfl, h.takeAs .factorAck⟩
  | .factorLevels => ⟨_, rfl, h.takeAs .factorLevels⟩
  | .uPort => ⟨_, rfl, h.takeAs .uPort⟩
  | .dPort => ⟨_, rfl, h.takeAs .dPort⟩
  | .timing => ⟨_, rfl, h.takeAs .timing⟩
  | .policy => ⟨_, rfl, h.takeAs .policy⟩
  | .pause => ⟨_, rfl, h.takeAs .pause⟩
  | .flush => ⟨_, rfl, h.takeAs .flush⟩
  | .clear => ⟨_, rfl, h.takeAs .clear⟩
  | .restart => ⟨_, rfl, h.takeAs .restart⟩
  | .station => ⟨_, rfl, h.takeAs .station⟩
  | .countersReadClear => ⟨_, rfl, h.takeAs .countersReadClear⟩
  | .portCountersReadClear => ⟨_, rfl, h.takeAs .portCountersReadClear⟩
  | .managementRequest => ⟨_, rfl, h.takeAs .managementRequest⟩

/-- Every step keeps the condition. -/
theorem step (h : s.ExchangesDistinct) : ∃ t, step s = .next t ∧ t.ExchangesDistinct := by
  unfold Machine.step
  split
  · have hrest : ∀ rest, ({ s with pending := rest } : State).ExchangesDistinct := fun _ =>
      h.of_addsNothing ((AddsNothingTo.refl s).of_fields rfl rfl rfl rfl)
    exact (hrest _).exec _
  · split
    · exact h.exec _
    · exact ⟨_, rfl, ite (h.of_addsNothing (.tick s)) h⟩

end State.ExchangesDistinct

/-- Settles O57: most of what the part does adds nothing to the exchanges (`AddsNothingTo`); admission, a discarded DONE, a window
that opens and a record that changes its side keep the condition for their own reasons. -/
theorem everyStepKeepsLiveExchangesDistinct : Obligations.EveryStepKeepsLiveExchangesDistinct := by
  intro s t ⟨hkeys, hspent, hstations⟩ ht
  obtain ⟨u, hu, h⟩ := State.ExchangesDistinct.step ⟨hkeys, hspent, hstations⟩
  cases hu.symm.trans ht
  exact ⟨h.keys, h.spent, h.stations⟩

end Sys2Proof.Machine
end

section
/-! Outcomes of exchanges: how one is settled (O35, O37), delivered (O25) and discarded (O40), the timers that run out (O39), and the
empty table of a reset (O6). -/

namespace Sys2Proof.Machine

/-! ### The table after a reset (R63) -/

/-- Settles O6: what `State.restarted` leaves in the table, at power-on, at RESET_END and at the end of RESTART's DONE. -/
theorem resetEmptiesTheExchangeTable : Obligations.ResetEmptiesTheExchangeTable := by
  have hfree : ∀ straps s i, (State.restarted straps s).entryAt i = none := fun straps s i => s.entryAt_restarted straps i
  refine ⟨⟨rfl, hfree strapsAllLow State.reset, rfl, rfl, rfl, rfl⟩,
    fun straps s => ⟨_, rfl, rfl, hfree straps s, rfl, rfl, rfl, rfl⟩, fun straps s f left hr htx hh => ?_⟩
  have hexec : exec (.frameSent .u straps) s = .next ((s.endSending .u).fullRestart straps) := by
    rw [State.exec_frameSent (p := .u) straps hr htx, State.reportSent, State.answerGone, State.endSending_handler, hh]
  exact ⟨_, hexec, rfl, hfree straps (s.endSending .u), rfl, rfl, rfl, rfl⟩

/-! ### Timers that run out (R48, R51, R132) -/

/-- Settles O39: a re-ask timer runs only in FAR_WAIT, a pause timer only in PAUSED. -/
theorem reAskAndPauseTimersRunOut : Obligations.ReAskAndPauseTimersRunOut := by
  intro s hr
  have hreAsk : ∀ i, exec (.reAskExpiry i) s = .next (s.reAskExpiry i) := fun i => by
    simp only [exec, execReAskExpiry, hr, if_true]
  refine ⟨fun i x hx => ⟨fun n hp => ?_, fun hp => ?_⟩, fun i hx => ?_, fun n hm => ?_, fun hm => ?_⟩
  · simp only [hreAsk, State.reAskExpiry, hx, hp, State.setEntry_eq]
  · rw [hreAsk, State.reAskExpiry, hx]
    cases hph : x.phase with
    | farWait n => exact absurd hph (hp n)
    | _ => simp only [hph]
  · simp only [hreAsk, State.reAskExpiry, hx]
  · simp only [exec, execPauseTimerExpiry, hr, hm, if_true]
  · simp only [exec, execPauseTimerExpiry, hr, hm, if_true]

/-- Settles O40: the entry is freed and its discard counted; only the key of a lost DONE joins the Spent List. -/
theorem anUncollectedOutcomeIsDiscarded : Obligations.AnUncollectedOutcomeIsDiscarded := by
  intro s i x o n hr hx hp ha r
  have hfreed : ((s.freeEntry i).countStation .discards x.key.addr).raise .discarded = r := by
    rw [State.countStation_eq _ _ _ ha, s.freeEntry_eq i]
    rfl
  have hexec : exec (.collectionExpiry i) s = .next (s.discardOutcome i x o) := by
    simp only [exec, execCollectionExpiry, hr, if_true, State.collectionExpiry, hx, hp]
  rw [hexec]
  refine ⟨fun hset => ?_, fun hset => ?_⟩
  · simp only [State.discardOutcome, hfreed, hset, and_self, if_true]
    rfl
  · simp only [State.discardOutcome, hfreed, hset, if_false]

/-! ### Delivery (R50, R103) -/

theorem State.Judges.isStation {s : State} {c : Instr} {f : FrameRecord} (h : s.Judges c f) : isStation f.addr = true := by
  rcases h with ⟨-, ⟨-, -, ha, -⟩, -⟩ | ⟨-, -, -, -, -, -, ha⟩ <;> exact ha

/-- Settles O25: the READY entry is found as the one live entry of the key, and its outcome delivered. -/
theorem aHeldOutcomeIsDeliveredOnce : Obligations.AHeldOutcomeIsDeliveredOnce := by
  intro s c f i x o n h hd hx hk hp
  have hlive : x.isLive = true := x.isLive_iff.2 (by rw [hp]; nofun)
  have hfound : s.liveEntry f.key = some i := s.liveEntry_of_distinct hd f.key i x hx hlive hk
  have haddr : x.key.addr = f.addr := congrArg Key.addr hk
  rw [s.exec_of_judges c f h]
  generalize hs' : ({ s with u := { s.u with slot := none }, handler := .deciding f } : State) = s'
  have hfound' : s'.liveEntry f.key = some i := by rw [← hs']; exact hfound
  have hx' : s'.entryAt i = some x := by rw [← hs']; exact hx
  simp only [State.matchOrAdmit, hfound', hx', State.answerRepeat, hp, State.deliver, haddr,
    State.countStation_eq _ _ _ h.isStation, State.freeEntry_eq]
  rw [← hs']
  rfl

/-! ### Settlement of an answered exchange (R45, R46, R121 to R123) -/

/-- A settlement with no discovery to do (R122). -/
theorem State.settle_eq (s : State) (i : Nat) {x : Exchange} {o : HeldOutcome} (ha : isStation x.key.addr = true)
    (hd : (x.discovery && o.kind.teaches) = false) : s.settle i x o = s.settledWith i x o := by
  simp only [State.settle, hd, State.settlePosted, State.settleReady, State.settledWith, State.countStation_eq _ _ _ ha]
  rfl

/-! Whether the line is IDLE before or after an exchange is acted on makes no difference. -/

theorem State.updateStation_withLine (s : State) (a : Nat) (g : StationRecord → StationRecord) (l : Line) :
    (s.withLine l).updateStation a g = (s.updateStation a g).withLine l := by
  simp only [State.updateStation, apply_ite (State.withLine · l)]
  rfl

theorem State.learnDownstream_withLine (s : State) (a : Nat) (l : Line) :
    (s.withLine l).learnDownstream a = (s.learnDownstream a).withLine l := by
  simp only [State.learnDownstream, apply_ite (State.withLine · l), State.updateStation_withLine]
  rfl

theorem State.settle_withLine (s : State) (i : Nat) (x : Exchange) (o : HeldOutcome) (l : Line) :
    (s.withLine l).settle i x o = (s.settle i x o).withLine l := by
  have hposted : ∀ t : State, (t.withLine l).settlePosted i x.key.addr o.kind =
      (t.settlePosted i x.key.addr o.kind).withLine l := fun t => by
    have hfree : (t.withLine l).freeEntry i = (t.freeEntry i).withLine l := rfl
    simp only [State.settlePosted, apply_ite (State.withLine · l), hfree, State.countStation, State.updateStation_withLine]
    rfl
  have hready : ∀ t : State, (t.withLine l).settleReady i x o = (t.settleReady i x o).withLine l := fun _ => rfl
  simp only [State.settle, apply_ite (State.withLine · l), ← hposted, ← hready, State.learnDownstream_withLine]

theorem State.actOnAnswer_withLine (s : State) (i : Nat) (x : Exchange) (f : FrameRecord) (l : Line) :
    (s.withLine l).actOnAnswer i x f = (s.actOnAnswer i x f).withLine l := by
  simp only [State.actOnAnswer, State.farTurnedAway, State.settleSilent, State.countStation, State.updateStation_withLine,
    State.settle_withLine, apply_ite (State.withLine · l)]
  rfl

/-- What the D port holds has nothing to do with a ladder level. -/
theorem State.withLevel_setD (s : State) (q : PortState) (a level : Nat) (c : StationCounters) :
    ({ s with d := q } : State).withLevel a level c = { s.withLevel a level c with d := q } := by
  have hst : ({ s with d := q } : State).stationAt a = s.stationAt a := rfl
  unfold State.withLevel
  rw [hst]
  dsimp only
  by_cases hc : (s.stationAt a).level < 8 ∧ level = 8
  · simp only [if_pos hc]
    rfl
  · simp only [if_neg hc]
    rfl

/-- The state in which the Dispatcher acts on a matching answer, but for the line (R121). -/
theorem State.withLine_answerTaken (s : State) (f : FrameRecord) (x : Exchange) (ha : isStation x.key.addr = true) :
    (s.emptyDSlot.withdrawFrame.setLevel x.key.addr (if f.kind = .absent then 8 else 1)).withLine .idle =
      s.answerTaken f x := by
  have hw : s.emptyDSlot.d.tx.isWaiting = s.d.tx.isWaiting := rfl
  have hd : s.emptyDSlot.withdrawFrame =
      { s with d := { s.d with slot := none, tx := if s.d.tx.isWaiting then .idle else s.d.tx } } := by
    unfold State.withdrawFrame
    rw [hw]
    split <;> rfl
  rw [State.setLevel_eq _ _ _ ha, hd, State.withLevel_setD]
  rfl

/-- A matching answer taken for exchange x of entry i: a WITHDRAWN entry is freed and any other acted on, without the attempt whose
frame still waited; then D settings that wait for the line may take effect (R121). -/
theorem State.exec_of_canMatch {s : State} {f : FrameRecord} {i a : Nat} {x : Exchange} (h : s.CanMatch f i a x) :
    exec .dAnswerFrame s = .next (State.settleDSettings
      (if x.phase = .withdrawn then (s.answerTaken f x).freeEntry i
        else (s.answerTaken f x).actOnAnswer i (x.lessWaiting s) f)) := by
  obtain ⟨-, hr, hf, ⟨hl, hx⟩, hm, ha⟩ := h
  have hanswer : f.kind.isRequest = false := by
    obtain ⟨-, -, -, ⟨-, hk⟩ | ⟨-, hk⟩ | ⟨-, hk⟩⟩ := hm
    · rw [hk]; rfl
    · rw [hk]; rfl
    · revert hk; cases f.kind <;> decide
  have hmatch := (matches_iff x a f).1 hm
  have hdispatch : s.emptyDSlot.dispatchAnswer f = s.emptyDSlot.takeMatching i x f := by
    have hentry : s.emptyDSlot.entryAt i = some x := hx
    rcases hl with hl | ⟨τ, hl⟩
    · have hline : s.emptyDSlot.line = .sending i a := hl
      simp only [State.dispatchAnswer, hline, hentry, hmatch, if_true]
    · have hline : s.emptyDSlot.line = .awaiting i a τ := hl
      simp only [State.dispatchAnswer, hline, hentry, hmatch, if_true]
  have hexec : exec .dAnswerFrame s = .next (s.emptyDSlot.takeMatching i x f) := by
    simp [exec, execDAnswerFrame, hf, hanswer, State.dTakeNow, hr, hdispatch]
  have hless : (if s.emptyDSlot.d.tx.isWaiting then { x with attempts := x.attempts - 1 } else x) = x.lessWaiting s := by
    rw [show s.emptyDSlot.d.tx.isWaiting = s.d.tx.isWaiting from rfl]
    unfold Exchange.lessWaiting
    split <;> rfl
  have hline : ∀ t : State, t.lineIdle = (t.withLine .idle).settleDSettings := fun _ => rfl
  have hfree : ∀ t : State, (t.freeEntry i).withLine .idle = (t.withLine .idle).freeEntry i := fun _ => rfl
  have hkey : (x.lessWaiting s).key = x.key := rfl
  have hphase : (x.lessWaiting s).phase = x.phase := rfl
  rw [hexec]
  simp only [State.takeMatching, hless, hline, hkey, hphase, apply_ite (State.withLine · .idle), hfree,
    ← State.actOnAnswer_withLine, State.withLine_answerTaken s f x ha]

/-- Settles O35: the answer is acted on (`exec_of_canMatch`) by a settlement with nothing to discover (`settle_eq`). -/
theorem aMatchingAnswerSettlesItsExchange : Obligations.AMatchingAnswerSettlesItsExchange := by
  intro s f i a x h hp hwait hbusy hdisc o
  have ha : isStation (x.lessWaiting s).key.addr = true := by
    obtain ⟨-, -, -, -, -, ha⟩ := h
    exact ha
  have ho : outcomeOf f = o := rfl
  have hnothing : ((x.lessWaiting s).discovery && o.kind.teaches) = false := by
    show (x.discovery && o.kind.teaches) = false
    rcases hdisc with hd | ⟨hdata, hdone, hfault⟩
    · rw [hd, Bool.false_and]
    · have ht : o.kind.teaches = false := by
        rw [← ho]
        unfold outcomeOf
        split
        · rfl
        · show f.kind.teaches = false
          cases hk : f.kind <;> simp_all [Kind.teaches]
      rw [ht, Bool.and_false]
  refine ⟨_, State.exec_of_canMatch h, ?_⟩
  rw [if_neg (by rw [hp]; nofun), State.actOnAnswer, if_neg (by simp [hwait, hbusy]), ho, State.settle_eq _ _ ha hnothing]
  exact State.settledOn_settleDSettings _

@[simp] theorem State.withLevel_timing (s : State) (a level : Nat) (c : StationCounters) :
    (s.withLevel a level c).timing = s.timing := by
  unfold State.withLevel
  dsimp only
  split <;> rfl

@[simp] theorem State.answerTaken_timing (s : State) (f : FrameRecord) (x : Exchange) :
    (s.answerTaken f x).timing = s.timing :=
  s.withLevel_timing _ _ _

/-- Settles O37: what `exec_of_canMatch` says of a WITHDRAWN entry, and of a far WAIT or BUSY on each side of the re-ask limit. -/
theorem farWaitsAndWithdrawnEntriesHoldNoAnswer : Obligations.FarWaitsAndWithdrawnEntriesHoldNoAnswer := by
  intro s f i a x h
  have ha : isStation (x.lessWaiting s).key.addr = true := by
    obtain ⟨-, -, -, -, -, ha⟩ := h
    exact ha
  have honLine : x.phase = .onLine → x.phase ≠ .withdrawn := fun hp => by rw [hp]; nofun
  refine ⟨_, State.exec_of_canMatch h, fun hp hk hlt => ?_, fun hp hk hle => ?_, fun hp => ?_⟩
  · have hre : (x.lessWaiting s).reAsks < (s.answerTaken f x).timing.reAskLimit := by rwa [State.answerTaken_timing]
    rw [if_neg (honLine hp), State.actOnAnswer, if_pos hk, State.farTurnedAway, if_pos hre, State.answerTaken_timing]
    exact State.settledOn_settleDSettings _
  · have hre : ¬ (x.lessWaiting s).reAsks < (s.answerTaken f x).timing.reAskLimit := by
      rw [State.answerTaken_timing]
      exact Nat.not_lt.2 hle
    have hsilent : ((x.lessWaiting s).discovery && silentOutcome.kind.teaches) = false := Bool.and_false _
    rw [if_neg (honLine hp), State.actOnAnswer, if_pos hk, State.farTurnedAway, if_neg hre, State.settleSilent,
      State.countStation_eq _ _ _ ha, State.settle_eq _ _ ha hsilent]
    exact State.settledOn_settleDSettings _
  · rw [if_pos hp, State.freeEntry_eq]
    exact State.settledOn_settleDSettings _

end Sys2Proof.Machine
end

section
/-! FLUSH and CLEAR (O50): what a withdrawal of exchanges leaves, and the SETs that ask for it. -/

namespace Sys2Proof.Machine

/-! ### Withdrawal of exchanges (R57, R61, R125) -/

theorem withdrawEntry_own {own : Exchange → Bool} {x : Exchange} (ho : own x = true) :
    withdrawEntry own (some x) = if x.holdsLine then some { x with phase := .withdrawn } else none := by
  simp only [withdrawEntry, ho, if_true, Exchange.withdrawnOrFree]

theorem withdrawEntry_other {own : Exchange → Bool} {x : Exchange} (ho : own x = false) :
    withdrawEntry own (some x) = some x := by
  simp only [withdrawEntry, ho, Bool.false_eq_true, if_false]

/-- Settings that have taken effect wait no longer (R36). -/
theorem State.settleDSettings_settleDSettings (s : State) : s.settleDSettings.settleDSettings = s.settleDSettings := by
  rcases s.settleDSettings_cases with he | ⟨-, -, -, he⟩
  · rw [he, he]
  · rw [he]
    simp [State.settleDSettings, PortState.applyPending]

theorem State.entryAt_withdrawn (own : Exchange → Bool) (s : State) (i : Nat) :
    (s.withdrawn own).entryAt i = withdrawEntry own (s.entryAt i) :=
  s.entryAt_withdrawTable own i

/-- Entry i is one of those that `own` picks, and its frame still waits in the D transmitter (R125). -/
def State.Drops (own : Exchange → Bool) (s : State) (i : Nat) : Prop :=
  ∃ x, s.entryAt i = some x ∧ own x = true ∧ (∃ a, s.line = .sending i a) ∧ s.d.tx.isWaiting = true

/-- The frame that waits on D is dropped when its exchange is one of those withdrawn, and only then (R125). -/
theorem State.dropWaitingWithdrawn_withdrawn {own : Exchange → Bool} {s : State}
    (hs : s.d.tx.isWaiting = true → ∃ i a x, s.line = .sending i a ∧ s.entryAt i = some x ∧ x.phase = .onLine) :
    ((∀ i, ¬ s.Drops own i) ∧ (s.withdrawn own).dropWaitingWithdrawn = s.withdrawn own) ∨
      ∃ i, s.Drops own i ∧
        (s.withdrawn own).dropWaitingWithdrawn = ((s.withdrawn own).withdrawFrame.freeEntry i).lineIdle := by
  by_cases hd : ∃ i, s.Drops own i
  · obtain ⟨i, hdrop⟩ := hd
    obtain ⟨x, hx, ho, ⟨a, hl⟩, hw⟩ := id hdrop
    obtain ⟨j, b, y, hl', hy, hp⟩ := hs hw
    cases hl.symm.trans hl'
    cases hx.symm.trans hy
    have hentry : (s.withdrawn own).entryAt i = some { x with phase := .withdrawn } := by
      rw [s.entryAt_withdrawn, hx, withdrawEntry_own ho, if_pos (x.holdsLine_iff.2 (.inl hp))]
    have hline : (s.withdrawn own).line = .sending i a := hl
    have hwaits : (s.withdrawn own).d.tx.isWaiting = true := hw
    exact .inr ⟨i, hdrop, by simp [State.dropWaitingWithdrawn, hline, hwaits, hentry]⟩
  · refine .inl ⟨not_exists.1 hd, ?_⟩
    rcases (s.withdrawn own).dropWaitingWithdrawn_cases with he | ⟨i, a, y, hl, hw, hy, hp, -⟩
    · exact he
    · obtain ⟨j, b, x, hl', hx, hpx⟩ := hs hw
      cases hl'.symm.trans hl
      rw [s.entryAt_withdrawn, hx] at hy
      cases ho : own x with
      | true => exact absurd ⟨i, x, hx, ho, ⟨a, hl⟩, hw⟩ hd
      | false =>
        rw [withdrawEntry_other ho] at hy
        cases hy
        rw [hpx] at hp
        cases hp

/-- What a flush must have done before D settings are looked at, for it to be as R57 and R125 say. -/
theorem State.flushed_settleDSettings {own : Exchange → Bool} {s q : State}
    (hdrop : ∀ i, s.Drops own i → q.entryAt i = none)
    (hkeep : ∀ i, ¬ s.Drops own i → q.entryAt i = withdrawEntry own (s.entryAt i))
    (hlen : q.entries.length = s.entries.length) (horder : q.order = s.order.filter fun i => (q.entryAt i).isSome)
    (hdropped : (∃ i, s.Drops own i) →
      q = { s with d := { s.d with tx := .idle }, line := .idle, entries := q.entries, order := q.order })
    (hnone : (¬ ∃ i, s.Drops own i) → q = { s with entries := q.entries, order := q.order }) :
    Flushed s q.settleDSettings own := by
  have hentries : q.settleDSettings.entries = q.entries := by simp
  have hqorder : q.settleDSettings.order = q.order := by simp
  have hsettled := q.settledOn_settleDSettings
  unfold Flushed
  simp only [State.entryAt_settleDSettings, hentries, hqorder]
  refine ⟨fun i hx => ?_, fun i x hx ho => ?_, fun i x hx ho hl => ?_, fun i x hx ho hl => ⟨fun hd => ?_, fun hd => ?_⟩,
    hlen, horder, fun ⟨i, x, hx, ho, hd⟩ => ?_, fun hd => ?_⟩
  · have hno : ¬ s.Drops own i := fun ⟨y, hy, _⟩ => by cases hx.symm.trans hy
    rw [hkeep i hno, hx]
    rfl
  · have hno : ¬ s.Drops own i := fun ⟨y, hy, hoy, _⟩ => by
      cases hx.symm.trans hy
      cases ho.symm.trans hoy
    rw [hkeep i hno, hx, withdrawEntry_other ho]
  · by_cases hd : s.Drops own i
    · exact hdrop i hd
    · rw [hkeep i hd, hx, withdrawEntry_own ho, if_neg (by simp [hl])]
  · exact hdrop i ⟨x, hx, ho, hd⟩
  · have hno : ¬ s.Drops own i := fun ⟨_, _, _, hd'⟩ => hd hd'
    rw [hkeep i hno, hx, withdrawEntry_own ho, if_pos hl]
  · rwa [← hdropped ⟨i, x, hx, ho, hd⟩]
  · rwa [← hnone fun ⟨i, x, hx, ho, hd'⟩ => hd ⟨i, x, hx, ho, hd'⟩]

/-- A withdrawal of exchanges is a flush in the words of the statements, when a frame that waits on D is that of an ON_LINE entry. -/
theorem State.flushed_withdrawExchanges {own : Exchange → Bool} {s : State}
    (hs : s.d.tx.isWaiting = true → ∃ i a x, s.line = .sending i a ∧ s.entryAt i = some x ∧ x.phase = .onLine) :
    Flushed s (s.withdrawExchanges own) own := by
  have hlen : (s.withdrawn own).entries.length = s.entries.length := List.length_map _
  show Flushed s (s.withdrawn own).dropWaitingWithdrawn.settleDSettings own
  rcases State.dropWaitingWithdrawn_withdrawn (own := own) hs with ⟨hno, he⟩ | ⟨i, hdrop, he⟩ <;> rw [he]
  · exact State.flushed_settleDSettings (fun i hd => absurd hd (hno i)) (fun i _ => s.entryAt_withdrawn own i) hlen rfl
      (fun ⟨i, hd⟩ => absurd hd (hno i)) fun _ => rfl
  · obtain ⟨x, hx, ho, ⟨a, hl⟩, hw⟩ := id hdrop
    have hwaits : (s.withdrawn own).d.tx.isWaiting = true := hw
    have hframe : (s.withdrawn own).withdrawFrame = { s.withdrawn own with d := { s.d with tx := .idle } } := by
      rw [State.withdrawFrame, if_pos hwaits]
      rfl
    have hentry : ∀ j, (((s.withdrawn own).withdrawFrame.freeEntry i).withLine .idle).entryAt j =
        if j = i then none else withdrawEntry own (s.entryAt j) := fun j => by
      rw [hframe, ← s.entryAt_withdrawn]
      exact State.entryAt_freeEntry _ i j
    have honly : ∀ j, s.Drops own j → j = i := fun j ⟨_, _, _, ⟨b, hl'⟩, _⟩ => by
      cases hl'.symm.trans hl
      rfl
    have hidle : ∀ t : State, t.lineIdle.settleDSettings = (t.withLine .idle).settleDSettings := fun t =>
      State.settleDSettings_settleDSettings _
    rw [hidle]
    refine State.flushed_settleDSettings (fun j hd => ?_) (fun j hd => ?_) ?_ ?_ (fun _ => ?_)
      fun hno => absurd ⟨i, hdrop⟩ hno
    · rw [hentry, if_pos (honly j hd)]
    · rw [hentry, if_neg fun hj : j = i => hd (hj.symm ▸ hdrop)]
    · rw [hframe]
      simpa [State.freeEntry, State.withLine] using hlen
    · simp only [hentry]
      rw [hframe]
      show (s.order.filter fun j => ((s.withdrawTable own).entryAt j).isSome).filter (· ≠ i) = _
      rw [List.filter_filter]
      congr 1
      funext j
      rw [s.entryAt_withdrawTable]
      by_cases hj : j = i <;> simp [hj]
    · rw [hframe]
      rfl

/-! ### FLUSH and CLEAR taken and answered (R159, R171, R172) -/

/-- State s with its U port, its handler and its read-and-clear memory replaced: what taking a management request changes. -/
def State.withTaking (q : PortState) (h : Handler) (m : Option StoredAnswer) (s : State) : State :=
  { s with u := q, handler := h, memory := m }

section withTaking

variable (q : PortState) (h : Handler) (m : Option StoredAnswer) (s : State)

theorem State.settleDSettings_withTaking :
    (s.withTaking q h m).settleDSettings = s.settleDSettings.withTaking q h m := by
  unfold State.settleDSettings
  rw [apply_ite (State.withTaking q h m)]
  rfl

theorem State.dropWaitingWithdrawn_withTaking :
    (s.withTaking q h m).dropWaitingWithdrawn = s.dropWaitingWithdrawn.withTaking q h m := by
  have hline : (s.withTaking q h m).line = s.line := rfl
  have hidle : ∀ t : State, (t.withTaking q h m).lineIdle = t.lineIdle.withTaking q h m := fun t =>
    State.settleDSettings_withTaking q h m (t.withLine .idle)
  cases hl : s.line with
  | idle => simp only [State.dropWaitingWithdrawn, hline, hl]
  | awaiting i a t => simp only [State.dropWaitingWithdrawn, hline, hl]
  | sending i a =>
    have hdrop : ((s.withTaking q h m).withdrawFrame.freeEntry i) = (s.withdrawFrame.freeEntry i).withTaking q h m := by
      unfold State.withdrawFrame
      rw [apply_ite (State.freeEntry i), apply_ite (State.freeEntry i), apply_ite (State.withTaking q h m)]
      rfl
    simp only [State.dropWaitingWithdrawn, hline, hl, hdrop, hidle]
    rw [apply_ite (State.withTaking q h m)]
    rfl

/-- Exchanges are withdrawn alike before and after a request is taken. -/
theorem State.withdrawExchanges_withTaking (own : Exchange → Bool) :
    (s.withTaking q h m).withdrawExchanges own = (s.withdrawExchanges own).withTaking q h m := by
  have htable : (s.withTaking q h m).withdrawn own = (s.withdrawn own).withTaking q h m := rfl
  show ((s.withTaking q h m).withdrawn own).dropWaitingWithdrawn.settleDSettings = _
  rw [htable, State.dropWaitingWithdrawn_withTaking, State.settleDSettings_withTaking]
  rfl

theorem State.flush_withTaking (a : Nat) : (s.withTaking q h m).flush a = (s.flush a).withTaking q h m := by
  rw [State.flush_eq, State.flush_eq]
  exact State.withdrawExchanges_withTaking q h m { s with spent := s.spent.filter fun k => k.addr ≠ a } _

theorem State.clearExchanges_withTaking : (s.withTaking q h m).clearExchanges = s.clearExchanges.withTaking q h m := by
  rw [State.clearExchanges_eq, State.clearExchanges_eq]
  exact State.withdrawExchanges_withTaking q h m { s with spent := [], mode := .run } _

end withTaking

theorem State.forgetMemory_beginTaking (s : State) (f : FrameRecord) :
    (s.beginTaking f).forgetMemory = s.withTaking { s.u with slot := none } (.deciding f) none :=
  rfl

/-- The answer of a request whose effect left the U port alone, in the words of the statements. -/
theorem State.answerManagement_withTaking {s t : State} (hu : t.u = s.u) (f : FrameRecord) (kind : Kind) (payload : List Byte)
    (mark : AnswerMark) :
    (t.withTaking { s.u with slot := none } (.deciding f) none).answerManagement f kind payload mark =
      t.managed f kind payload mark := by
  rw [← hu]
  rfl

/-- Settles O50: each SET is taken and accepted, and its effect is a withdrawal of exchanges (`flushed_withdrawExchanges`). -/
theorem flushAndClearEndExchanges : Obligations.FlushAndClearEndExchanges := by
  intro s f hstart
  have hwaits : s.d.tx.isWaiting = true →
      ∃ i a x, s.line = .sending i a ∧ s.entryAt i = some x ∧ x.phase = .onLine := fun hw => (hstart hw).2
  refine ⟨fun h hlen ha => ⟨s.flush (byteAt f.payload 0), ?_, ?_⟩, fun h hlen => ⟨s.clearExchanges, ?_, ?_⟩⟩
  · have hexec : exec .flush s = .next ((s.beginTaking f).decideFlush f) := State.exec_of_canManage h (.inr rfl)
    rw [hexec, State.decideFlush, State.judgeSet_accepted hlen (by simp [firstBad, ha]), s.forgetMemory_beginTaking f,
      State.flush_withTaking, State.answerManagement_withTaking (by simp)]
  · rw [s.flush_eq]
    exact State.flushed_withdrawExchanges (s := { s with spent := s.spent.filter fun k => k.addr ≠ byteAt f.payload 0 }) hwaits
  · have hexec : exec .clear s = .next ((s.beginTaking f).decideClear f) := State.exec_of_canManage h (.inr rfl)
    rw [hexec, State.decideClear, State.judgeSet_accepted (by rw [hlen]; rfl) rfl, s.forgetMemory_beginTaking f,
      State.clearExchanges_withTaking, State.answerManagement_withTaking (by simp)]
  · rw [s.clearExchanges_eq]
    exact State.flushed_withdrawExchanges (s := { s with spent := [], mode := .run }) hwaits

end Sys2Proof.Machine
end

section
/-! The reads of the Management Unit's objects (O53). -/

namespace Sys2Proof.Machine

/-! ### Which object a number names (R160) -/

theorem Object.ofNumber_station {a : Nat} (ha : isStation a = true) : Object.ofNumber (0x0100 + a) = .station a := by
  have hle := (isStation_iff a).1 ha
  unfold Object.ofNumber
  simp (disch := omega) only [if_neg, if_pos, Nat.add_sub_cancel_left]

theorem Object.ofNumber_counters {a : Nat} (ha : isStation a = true) : Object.ofNumber (0x0200 + a) = .counters a := by
  have hle := (isStation_iff a).1 ha
  unfold Object.ofNumber
  simp (disch := omega) only [if_neg, if_pos, Nat.add_sub_cancel_left]

theorem Object.ofNumber_exchange {i : Nat} (hi : i < 8) : Object.ofNumber (0x0500 + i) = .exchange i := by
  unfold Object.ofNumber
  simp (disch := omega) only [if_neg, if_pos, Nat.add_sub_cancel_left]

/-! ### A read (R162) -/

/-- An object that is read without being cleared. -/
def Object.readsPlainly (o : Object) : Prop := o.answersAsk = true ∧ managementTaking .ask o = .managementRequest

/-- What an object reads has nothing to do with the request being taken. -/
theorem State.readObject_beginTaking (s : State) (f : FrameRecord) (o : Object) :
    (s.beginTaking f).forgetMemory.readObject o = s.readObject o := by
  cases o <;> rfl

/-- An ASK of an object that is read without being cleared is answered with what the object reads (R162). -/
theorem State.exec_read {s : State} {f : FrameRecord} {n : Nat} {o : Object} (h : s.CanManage f .ask n)
    (hn : Object.ofNumber n = o) (ho : o.readsPlainly) :
    exec .managementRequest s = .next (s.managed f .data (s.readObject o) .plain) := by
  obtain ⟨hask, htaking⟩ := ho
  have hexec : exec .managementRequest s = .next ((s.beginTaking f).decideManagementRequest f) := by
    have he := State.exec_of_canManage h (.inl rfl)
    rwa [hn, htaking] at he
  obtain ⟨-, -, hkind, hobject⟩ := h
  have hknown : o ≠ .unknown := fun hu => by
    rw [hu] at hask
    cases hask
  rw [hexec]
  simp only [State.decideManagementRequest, hobject, hn, hknown, hkind, hask, if_false, and_self, if_true,
    State.readObject_beginTaking]
  rfl

/-! ### What the objects read (R64, R152, R162 to R180) -/

theorem Policy.code_eq (p : Policy) : p.code = if p == .opened then 1 else 0 := by cases p <;> rfl

theorem twoBytes_toNat (w : BitVec 16) : twoBytes w.toNat = [hiByte w, loByte w] := by
  simp [twoBytes]

/-- The codes of the pending factors are those of 1 to 11 whose factor is pending (R152). -/
theorem State.pendingCodes_eq (s : State) :
    s.pendingCodes = (List.range' 1 11).filter fun c => (s.factorAt c).pending := by
  rw [List.range'_eq_map_range, List.filter_map, State.pendingCodes]
  simp only [Function.comp_def, Nat.add_comm]

/-- An entry's place in the Dispatch Order list (R42). -/
theorem State.placeOf_eq (s : State) (i : Nat) : s.placeOf i = if i ∈ s.order then s.order.idxOf i + 1 else 0 := by
  unfold State.placeOf
  by_cases hm : i ∈ s.order
  · have hfound : s.order.findIdx? (· == i) = some (s.order.idxOf i) :=
      List.findIdx?_eq_some_iff_findIdx_eq.2 ⟨List.idxOf_lt_length_iff.2 hm, rfl⟩
    rw [hfound, if_pos hm]
  · have hnone : s.order.findIdx? (· == i) = none :=
      List.findIdx?_eq_none_iff.2 fun j hj => beq_false_of_ne fun he => hm (he ▸ hj)
    rw [hnone, if_neg hm]

/-- The tests of the statements on the exchange that an entry holds, each as its code (R177). -/
theorem entryStateCode_some :
    (∀ x : Exchange, (x.phase == .queued) = (entryStateCode (some x) == 1)) ∧
      (∀ x : Exchange, (x.phase == .onLine) = (entryStateCode (some x) == 2)) ∧
      (∀ x : Exchange, (match x.phase with | .farWait _ => true | _ => false) = (entryStateCode (some x) == 3)) ∧
      (∀ x : Exchange, (match x.phase with | .ready _ _ => true | _ => false) = (entryStateCode (some x) == 4)) ∧
      (∀ x : Exchange, (x.phase == .withdrawn) = (entryStateCode (some x) == 5)) ∧
      ∀ x : Exchange, false = (entryStateCode (some x) == 0) := by
  refine ⟨fun x => ?_, fun x => ?_, fun x => ?_, fun x => ?_, fun x => ?_, fun x => ?_⟩ <;>
    cases hp : x.phase <;> simp [entryStateCode, hp]

/-- The count of entries in a state is that of the entries that meet any test for it (R165, R177). -/
theorem State.entriesInState_eq (s : State) {code : Nat} {p : Option Exchange → Bool}
    (hnone : p none = (0 == code)) (hsome : ∀ x, p (some x) = (entryStateCode (some x) == code)) :
    s.entriesInState code = (s.entries.filter p).length := by
  have hp : p = fun e => entryStateCode e == code := funext fun e => by
    cases e with
    | none => exact hnone
    | some x => exact hsome x
  rw [State.entriesInState, hp]

/-- The six counts that STATUS shows (R165). -/
theorem State.entriesInState_counts (s : State) :
    let inState (p : Exchange → Bool) := (s.entries.filter fun e => e.any p).length
    s.entriesInState 0 = (s.entries.filter fun e => e.isNone).length ∧
      s.entriesInState 1 = inState (fun x => x.phase == .queued) ∧
      s.entriesInState 2 = inState (fun x => x.phase == .onLine) ∧
      s.entriesInState 3 = inState (fun x => match x.phase with | .farWait _ => true | _ => false) ∧
      s.entriesInState 4 = inState (fun x => match x.phase with | .ready _ _ => true | _ => false) ∧
      s.entriesInState 5 = inState (fun x => x.phase == .withdrawn) := by
  obtain ⟨hqueued, honLine, hfar, hready, hwithdrawn, hfree⟩ := entryStateCode_some
  exact ⟨s.entriesInState_eq rfl hfree, s.entriesInState_eq rfl hqueued, s.entriesInState_eq rfl honLine,
    s.entriesInState_eq rfl hfar, s.entriesInState_eq rfl hready, s.entriesInState_eq rfl hwithdrawn⟩

theorem roundUp_10ms (left : Nat) : roundUp Config.unitsPer10ms left = max 1 ((left + 368639) / 368640) := by
  simp only [roundUp, Config.unitsPer10ms, show left + 368640 - 1 = left + 368639 by omega]

theorem roundUp_1ms (left : Nat) : roundUp Config.unitsPerMs left = max 1 ((left + 36863) / 36864) := by
  simp only [roundUp, Config.unitsPerMs, show left + 36864 - 1 = left + 36863 by omega]

/-- What is left of a pause in steps of 10 ms, rounded up (R162, R165, R170). -/
def State.pauseLeft (s : State) : Nat :=
  match s.mode with
  | .run => 0
  | .paused t => max 1 ((t + 368639) / 368640)

theorem State.pausePayload_eq (s : State) : s.pausePayload = yesNo (s.mode != .run) :: twoBytes s.pauseLeft := by
  cases hm : s.mode with
  | run => simp only [State.pausePayload, State.pauseLeft, hm]; rfl
  | paused t => simp only [State.pausePayload, State.pauseLeft, hm, roundUp_10ms]; rfl

theorem State.statusPayload_eq (s : State) :
    s.statusPayload =
      [oneByte s.summary.toNat, yesNo (s.mode != .run)] ++ twoBytes s.pauseLeft ++
        [oneByte (s.entriesInState 0), oneByte (s.entriesInState 1), oneByte (s.entriesInState 2),
          oneByte (s.entriesInState 3), oneByte (s.entriesInState 4), oneByte (s.entriesInState 5)] ++
        [oneByte s.mgmtAddr, s.policy.code, yesNo s.forwarding, oneByte s.pendingCodes.length] ++
        s.pendingCodes.map oneByte := by
  have hcounts : (List.range 6).map (fun c => oneByte (s.entriesInState c)) =
      [oneByte (s.entriesInState 0), oneByte (s.entriesInState 1), oneByte (s.entriesInState 2),
        oneByte (s.entriesInState 3), oneByte (s.entriesInState 4), oneByte (s.entriesInState 5)] := rfl
  cases hm : s.mode <;> simp only [State.statusPayload, State.pauseLeft, hcounts, hm, roundUp_10ms]

theorem State.exchangePayload_eq {s : State} {i : Nat} {x : Exchange} (hx : s.entryAt i = some x) :
    s.exchangePayload i =
      [oneByte (entryStateCode (some x)), oneByte x.key.addr, x.key.kind.code] ++ twoBytes x.key.object.toNat ++
        [oneByte x.key.tag.toNat, yesNo x.posted, yesNo x.discovery, oneByte x.cls,
          oneByte (if i ∈ s.order then s.order.idxOf i + 1 else 0), oneByte x.attempts, oneByte x.reAsks] ++
        twoBytes x.viewTimer ++ [x.viewOutcome] := by
  rw [← s.placeOf_eq, twoBytes_toNat]
  simp only [State.exchangePayload, hx]
  rfl

/-- Settles O53: each object is read as `exec_read` says, and what it reads stands in its layout. -/
theorem plainReadsAnswerInTheirLayoutAndChangeNothing : Obligations.PlainReadsAnswerInTheirLayoutAndChangeNothing := by
  intro s f reads byte flag left inState settings port paused
  have read : ∀ {n : Nat} {o : Object} {payload : List Byte}, Object.ofNumber n = o → o.readsPlainly →
      s.readObject o = payload → reads n payload := fun hn ho hp h => hp ▸ State.exec_read h hn ho
  have hpaused : yesNo (s.mode != .run) = flag paused := by
    have hb : (s.mode != .run) = paused := by
      rw [Bool.eq_iff_iff]
      simp [paused]
    rw [hb]
    rfl
  have hpolicy : s.policy.code = flag (s.policy == .opened) := s.policy.code_eq
  have hport : ∀ q : PortState, q.portPayload = port q := fun _ => rfl
  refine ⟨read rfl ⟨rfl, rfl⟩ rfl, read (o := .status) rfl ⟨rfl, rfl⟩ ?_, s.pendingCodes_eq,
    read (o := .factorLevels) rfl ⟨rfl, rfl⟩ rfl, read (o := .uPort) rfl ⟨rfl, rfl⟩ (hport s.u),
    read (o := .dPort) rfl ⟨rfl, rfl⟩ (hport s.d), read (o := .timing) rfl ⟨rfl, rfl⟩ rfl,
    read (o := .policy) rfl ⟨rfl, rfl⟩ ?_, read (o := .pause) rfl ⟨rfl, rfl⟩ ?_, fun a ha => ⟨?_, ?_⟩,
    read (o := .portCounters) rfl ⟨rfl, rfl⟩ rfl, fun i hi hx => ?_, fun i x hi hx => ?_⟩
  · obtain ⟨hfree, hqueued, honLine, hfar, hready, hwithdrawn⟩ := s.entriesInState_counts
    show s.statusPayload = _
    rw [s.statusPayload_eq, hpaused, hpolicy, hfree, hqueued, honLine, hfar, hready, hwithdrawn]
    rfl
  · show [s.policy.code, yesNo s.forwarding] = _
    rw [hpolicy]
    rfl
  · show s.pausePayload = _
    rw [s.pausePayload_eq, hpaused]
    rfl
  · exact read (Object.ofNumber_station ha) ⟨rfl, rfl⟩ rfl
  · exact read (Object.ofNumber_counters ha) ⟨rfl, rfl⟩ rfl
  · refine read (Object.ofNumber_exchange hi) ⟨rfl, rfl⟩ ?_
    simp only [State.readObject, State.exchangePayload, hx]
  · intro code
    have hview : ∀ {q timer : Nat} {kind : Byte}, entryStateCode (some x) = q → x.viewTimer = timer →
        x.viewOutcome = kind → reads (0x0500 + i) (code q timer kind) := fun hq ht hk => by
      refine read (Object.ofNumber_exchange hi) ⟨rfl, rfl⟩ ?_
      rw [← hq, ← ht, ← hk]
      exact State.exchangePayload_eq hx
    refine ⟨fun hp => ?_, fun hp => ?_, fun t hp => ?_, fun o t hp => ?_, fun hp => ?_⟩ <;>
      refine hview ?_ ?_ ?_ <;>
      simp [entryStateCode, Exchange.viewTimer, Exchange.viewOutcome, roundUp_1ms, hp]

end Sys2Proof.Machine
end

section
/-! The Station Table stays sound (O54): the condition taken apart, and what keeps it in the records, the entries and the other blocks. -/

namespace Sys2Proof.Machine

/-! ### The condition, taken apart

A command keeps the management address unless it resets the part. So the condition is held against an address `m` of its own: an
exchange that does not name `m` when an operation begins does not name the management address when it ends. -/

/-- The records r under management address m: record m is the SELF record as the reset left it, and the aliases of the others are as
they must be (R65, R66, R70 to R72). -/
structure RecordsSound (m : Nat) (r : Nat → StationRecord) : Prop where
  address : isStation m = true
  self : r m = .afterReset m m
  oneSelf : ∀ a, isStation a = true → (r a).side = .self → a = m
  unknownAlias : ∀ a, isStation a = true → (r a).side = .unknown → (r a).aliasAddr = a
  aliases : ∀ a b c, isStation a = true → isStation b = true → (r a).holdsAlias c = true → (r b).holdsAlias c = true → a = b

/-- The request a window holds does not name m. -/
def Handler.NamesNot (m : Nat) (h : Handler) : Prop := ∀ f t, h = .window f t → f.addr ≠ m

/-- A NOTE in the slot names no station (R10). -/
def PortState.NotesNameNone (q : PortState) : Prop := ∀ f, q.slot = some f → f.kind = .note → f.addr = 0

/-- The whole condition under management address m. -/
structure State.TableSoundFor (m : Nat) (s : State) : Prop where
  mgmt : s.mgmtAddr = m
  factors : s.factors.length = 11
  stations : s.stations.length = 126
  records : RecordsSound m s.stationAt
  entries : s.entries.length = 8
  keys : ∀ i x, s.entryAt i = some x → x.key.addr ≠ m
  handler : s.handler.NamesNot m
  slot : s.u.NotesNameNone

/-- The condition is what the statement says. -/
theorem State.tableSound_iff (s : State) :
    (∃ m, s.TableSoundFor m) ↔
      s.TablesSized ∧ s.OneSelf ∧ s.SelfUntouched ∧ s.SelfAsReset ∧ s.UnknownAliasOwn ∧ s.AliasesDistinct := by
  constructor
  · rintro ⟨m, rfl, hf, hlen, ⟨hm, hself, hone, hunknown, halias⟩, he, hkeys, hh, hslot⟩
    refine ⟨⟨he, hlen, hf⟩, ⟨hm, fun a ha => ⟨hone a ha, ?_⟩⟩, ⟨hkeys, hh, hslot⟩, hself, hunknown, halias⟩
    rintro rfl
    rw [hself]
    exact if_pos rfl
  · rintro ⟨⟨he, hlen, hf⟩, ⟨hm, hone⟩, ⟨hkeys, hh, hslot⟩, hself, hunknown, halias⟩
    exact ⟨_, rfl, hf, hlen, ⟨hm, hself, fun a ha => (hone a ha).1, hunknown, halias⟩, he, hkeys, hh, hslot⟩

/-! ### Records -/

theorem State.aliasHeldByOther_eq_false (s : State) (own c : Nat) :
    s.aliasHeldByOther own c = false ↔ ∀ b, isStation b = true → b ≠ own → (s.stationAt b).holdsAlias c = false := by
  rw [← Bool.not_eq_true, ← s.heldByAnother_iff]
  simp only [State.HeldByAnother, StationRecord.holdsAlias, not_exists, ← Bool.not_eq_true, Bool.and_eq_true, Bool.or_eq_true,
    beq_iff_eq, not_and]
  exact ⟨fun h b hb hne => h b hne hb, fun h b hne hb => h b hb hne⟩

/-- A record x that may be given to station a, which is not the management address, among the records r (R66, R71, R72). -/
structure StationRecord.FitsAmong (r : Nat → StationRecord) (a : Nat) (x : StationRecord) : Prop where
  side : x.side ≠ .self
  unknownAlias : x.side = .unknown → x.aliasAddr = a
  aliases : ∀ c, x.holdsAlias c = true → ∀ b, isStation b = true → b ≠ a → (r b).holdsAlias c = false

namespace RecordsSound

variable {m a : Nat} {r r' : Nat → StationRecord} {x : StationRecord}

/-- The record of a station is one that may be given to it, and so is one of the same side and downstream address. -/
theorem fits (h : RecordsSound m r) (hst : isStation a = true) (ha : a ≠ m) (hside : x.side = (r a).side)
    (halias : x.aliasAddr = (r a).aliasAddr) : x.FitsAmong r a where
  side hs := ha (h.oneSelf a hst (hside ▸ hs))
  unknownAlias hu := halias.trans (h.unknownAlias a hst (hside ▸ hu))
  aliases c hc b hb hba := Bool.eq_false_iff.2 fun hbc => hba (h.aliases b a c hb hst hbc (by
    rwa [StationRecord.holdsAlias, hside, halias] at hc))

/-- One record, not that of the management address, is replaced by one that fits. -/
theorem change (h : RecordsSound m r) (ha : a ≠ m) (hx : isStation a = true → x.FitsAmong r a)
    (hr : ∀ b, r' b = r b ∨ (b = a ∧ isStation a = true ∧ r' b = x)) : RecordsSound m r' where
  address := h.address
  self := by
    rcases hr m with he | ⟨hm, -, -⟩
    · exact he.trans h.self
    · exact absurd hm.symm ha
  oneSelf b hb := by
    rcases hr b with he | ⟨-, hst, he⟩ <;> rw [he]
    · exact h.oneSelf b hb
    · exact fun hs => absurd hs (hx hst).side
  unknownAlias b hb := by
    rcases hr b with he | ⟨rfl, hst, he⟩ <;> rw [he]
    · exact h.unknownAlias b hb
    · exact (hx hst).unknownAlias
  aliases b b' c hb hb' := by
    have hother : ∀ b, isStation b = true → isStation a = true → x.holdsAlias c = true → (r b).holdsAlias c = true → b = a :=
      fun b hb hst hc hbc => by
        by_contra hba
        exact Bool.false_ne_true (((hx hst).aliases c hc b hb hba).symm.trans hbc)
    rcases hr b with he | ⟨hba, hst, he⟩ <;> rcases hr b' with he' | ⟨hba', hst', he'⟩ <;> rw [he, he']
    · exact h.aliases b b' c hb hb'
    · exact fun hc hc' => (hother b hb hst' hc' hc).trans hba'.symm
    · exact fun hc hc' => hba.trans (hother b' hb' hst hc hc').symm
    · exact fun _ _ => hba.trans hba'.symm

end RecordsSound

/-! ### Operations on the blocks -/

namespace State.TableSoundFor

variable {m : Nat} {s : State} {i a : Nat} {x y : Exchange}

/-- The condition reads the records, the management address, the entries, the factors, the handler and the U port alone. -/
theorem unread {t : State} (h : s.TableSoundFor m)
    (ht : t = { s with
      pins := t.pins, d := t.d, dChangeDue := t.dChangeDue, restartDeaf := t.restartDeaf, order := t.order, spent := t.spent
      timing := t.timing, stepTimer := t.stepTimer, policy := t.policy, forwarding := t.forwarding, mode := t.mode
      line := t.line, memory := t.memory, pending := t.pending }) : t.TableSoundFor m := by
  rw [ht]
  exact ⟨h.mgmt, h.factors, h.stations, h.records, h.entries, h.keys, h.handler, h.slot⟩

theorem updatePort (h : s.TableSoundFor m) (p : Port) {g : PortState → PortState}
    (hg : ∀ q : PortState, q.NotesNameNone → (g q).NotesNameNone) : (s.updatePort p g).TableSoundFor m := by
  cases p with
  | u => exact { h with slot := hg _ h.slot }
  | d => exact h.unread rfl

theorem setFactors (h : s.TableSoundFor m) {fs : List FactorState} (hf : fs.length = s.factors.length) :
    ({ s with factors := fs } : State).TableSoundFor m :=
  { h with factors := hf.trans h.factors }

theorem raise (h : s.TableSoundFor m) (f : Factor) : (s.raise f).TableSoundFor m := h.setFactors (s.factors_length_raise f)

theorem countPort (h : s.TableSoundFor m) (p : Port) (c : PortCounter) : (s.countPort p c).TableSoundFor m := by
  have hc := h.updatePort p (g := fun q => { q with counters := q.counters.bump c }) fun _ hq => hq
  unfold State.countPort State.raiseOpt
  split
  · exact hc.raise _
  · exact hc

theorem setHandler (h : s.TableSoundFor m) {k : Handler} (hk : k.NamesNot m) :
    ({ s with handler := k } : State).TableSoundFor m :=
  { h with handler := hk }

theorem silence (h : s.TableSoundFor m) : s.silence.TableSoundFor m := h.setHandler nofun

theorem sendAnswer (h : s.TableSoundFor m) (k : AnswerMark) (f : FrameRecord) : (s.sendAnswer k f).TableSoundFor m :=
  (h.updatePort .u (g := fun q => { q with tx := .waiting f }) fun _ hq => hq).setHandler nofun

theorem beginTaking (h : s.TableSoundFor m) (f : FrameRecord) : (s.beginTaking f).TableSoundFor m :=
  (h.updatePort .u (g := fun q => { q with slot := none }) fun _ _ _ hf => nomatch hf).setHandler nofun

theorem forgetMemory (h : s.TableSoundFor m) : s.forgetMemory.TableSoundFor m := h.unread rfl

theorem settleDSettings (h : s.TableSoundFor m) : s.settleDSettings.TableSoundFor m := by
  rcases s.settleDSettings_cases with he | ⟨-, -, -, he⟩ <;> rw [he]
  · exact h
  · exact h.unread rfl

theorem withdrawFrame (h : s.TableSoundFor m) : s.withdrawFrame.TableSoundFor m := by
  unfold State.withdrawFrame
  split
  · exact h.unread rfl
  · exact h

theorem setLine (h : s.TableSoundFor m) (l : Line) : ({ s with line := l } : State).TableSoundFor m := h.unread rfl

theorem lineIdle (h : s.TableSoundFor m) : s.lineIdle.TableSoundFor m := (h.setLine .idle).settleDSettings

/-! ### Station records -/

theorem updateStation (h : s.TableSoundFor m) {g : StationRecord → StationRecord} (ha : a ≠ m)
    (hg : isStation a = true → (g (s.stationAt a)).FitsAmong s.stationAt a) : (s.updateStation a g).TableSoundFor m where
  mgmt := by simpa using h.mgmt
  factors := by simpa using h.factors
  stations := by simpa using h.stations
  records := h.records.change ha hg fun b => s.stationAt_updateStation_or a b g
  entries := by simpa using h.entries
  keys := by simpa [State.entryAt] using h.keys
  handler := by simpa using h.handler
  slot := by simpa using h.slot

theorem countStation (h : s.TableSoundFor m) (c : StationCounter) (ha : a ≠ m) : (s.countStation c a).TableSoundFor m :=
  h.updateStation ha fun hst => h.records.fits hst ha rfl rfl

theorem setLevel (h : s.TableSoundFor m) (ha : a ≠ m) (level : Nat) : (s.setLevel a level).TableSoundFor m := by
  have hs := h.updateStation (g := fun r => { r with level := level }) ha fun hst =>
    h.records.fits hst ha rfl rfl
  unfold State.setLevel
  split
  · dsimp only
    split
    · exact hs.raise _
    · exact hs
  · exact h

theorem advanceLevel (h : s.TableSoundFor m) (ha : a ≠ m) : (s.advanceLevel a).TableSoundFor m := h.setLevel ha _

/-- A clear of the SELF record's counters finds them at 0 (R70, R85). -/
theorem clearStationCounters (h : s.TableSoundFor m) (a : Nat) : (s.clearStationCounters a).TableSoundFor m := by
  by_cases ha : a = m
  · have hsame : ∀ b, (s.clearStationCounters a).stationAt b = s.stationAt b := fun b => by
      rcases s.stationAt_updateStation_or a b (fun r => { r with counters := .zero }) with he | ⟨rfl, -, he⟩
      · exact he
      · rw [State.clearStationCounters, he, ha, h.records.self]
        rfl
    exact
      { mgmt := by simpa [State.clearStationCounters] using h.mgmt
        factors := by simpa [State.clearStationCounters] using h.factors
        stations := by simpa [State.clearStationCounters] using h.stations
        records := funext hsame ▸ h.records
        entries := by simpa [State.clearStationCounters] using h.entries
        keys := by simpa [State.clearStationCounters, State.entryAt] using h.keys
        handler := by simpa [State.clearStationCounters] using h.handler
        slot := by simpa [State.clearStationCounters] using h.slot }
  · exact h.updateStation ha fun hst => h.records.fits hst ha rfl rfl

/-- Discovery gives a record a downstream address that no other holds (R81). -/
theorem learnDownstream (h : s.TableSoundFor m) (ha : a ≠ m) : (s.learnDownstream a).TableSoundFor m := by
  unfold State.learnDownstream
  split
  · exact h
  split
  · exact h.raise _
  · next hheld =>
    have hs := h.updateStation (g := fun r => { r with side := .downstream, aliasAddr := a }) ha fun _ =>
      ⟨nofun, nofun, fun c hc => by
        have hca : a = c := by simpa [StationRecord.holdsAlias] using hc
        rw [← hca]
        exact (s.aliasHeldByOther_eq_false a a).1 (Bool.eq_false_iff.2 hheld)⟩
    exact hs.raise _

/-- Only a record that is not SELF climbs the ladder by time (R138). -/
theorem stepStation (h : s.TableSoundFor m) (a : Nat) : (s.stepStation a).TableSoundFor m := by
  unfold State.stepStation
  split
  · next hs =>
    refine h.advanceLevel fun ha => ?_
    rw [ha, h.records.self] at hs
    simp [StationRecord.afterReset] at hs
  · exact h

/-! ### Entries -/

theorem setEntry (h : s.TableSoundFor m) (i : Nat) (hx : x.key.addr ≠ m) : (s.setEntry i x).TableSoundFor m :=
  { h with
    entries := by simpa [State.setEntry] using h.entries
    keys := fun j y hy => by
      by_cases hj : j = i
      · subst hj
        rcases s.entryAt_setEntry_or j j x with he | he <;> rw [he] at hy
        · cases hy
          exact hx
        · exact h.keys j y hy
      · refine h.keys j y ?_
        simpa [State.entryAt, State.setEntry, List.getD_eq_getElem?_getD, Ne.symm hj] using hy }

theorem freeEntry (h : s.TableSoundFor m) (i : Nat) : (s.freeEntry i).TableSoundFor m :=
  { h with
    entries := by simpa [State.freeEntry] using h.entries
    keys := fun j y hy => by
      rw [s.entryAt_freeEntry i j] at hy
      split at hy
      · cases hy
      · exact h.keys j y hy }

/-- A change of every entry that leaves the keys as they are. -/
theorem mapEntries (h : s.TableSoundFor m) {g : Option Exchange → Option Exchange} (hnone : g none = none)
    (hg : ∀ x y, g (some x) = some y → y.key = x.key) : ({ s with entries := s.entries.map g } : State).TableSoundFor m :=
  { h with
    entries := by simpa using h.entries
    keys := fun j y hy => by
      have hj : g (s.entryAt j) = some y := (s.entryAt_map g hnone j).symm.trans hy
      cases hx : s.entryAt j with
      | none => rw [hx, hnone] at hj; cases hj
      | some x =>
        rw [hg x y (hx ▸ hj)]
        exact h.keys j x hx }

/-! ### Admission, sending and settlement (R43 to R47, R117, R121 to R129) -/

theorem admitInto (h : s.TableSoundFor m) (i : Nat) {f : FrameRecord} (ha : f.addr ≠ m) : (s.admitInto i f).TableSoundFor m := by
  have hset : ∀ disc cls o, ({ (s.removeSpent f.key).setEntry i (newExchange f disc cls) with order := o } :
      State).TableSoundFor m := fun disc cls o => by
    have hnew : ((s.removeSpent f.key).setEntry i (newExchange f disc cls)).TableSoundFor m :=
      (h.unread (t := s.removeSpent f.key) rfl).setEntry i ha
    exact hnew.unread rfl
  unfold State.admitInto
  dsimp only
  split
  · exact hset _ _ _
  · exact (hset _ _ _).countStation _ ha

section exchange

variable (hx : x.key.addr ≠ m)
include hx

theorem sendAttempt (h : s.TableSoundFor m) (i a : Nat) : (s.sendAttempt i x a).TableSoundFor m := by
  have hset := h.setEntry (x := { x with phase := .onLine, attempts := x.attempts + 1 }) i hx
  exact hset.unread rfl

theorem settle (h : s.TableSoundFor m) (i : Nat) (o : HeldOutcome) : (s.settle i x o).TableSoundFor m := by
  have hlearn : (if x.discovery && o.kind.teaches then s.learnDownstream x.key.addr else s).TableSoundFor m := by
    split
    · exact h.learnDownstream hx
    · exact h
  have hready : ∀ t : State, t.TableSoundFor m → (t.settleReady i x o).TableSoundFor m := fun t ht =>
    (ht.setEntry (x := { x with phase := .ready o (t.timing.collectionTime * Config.unitsPer10ms) }) i hx).unread rfl
  unfold State.settle
  dsimp only
  split
  · have hfree := hlearn.freeEntry i
    unfold State.settlePosted
    dsimp only
    split
    · exact hfree
    · exact (hfree.countStation _ hx).raise _
  · exact hready _ hlearn

theorem settleSilent (h : s.TableSoundFor m) (i : Nat) : (s.settleSilent i x).TableSoundFor m :=
  (h.countStation _ hx).settle hx i _

theorem actOnAnswer (h : s.TableSoundFor m) (i : Nat) (f : FrameRecord) : (s.actOnAnswer i x f).TableSoundFor m := by
  unfold State.actOnAnswer State.farTurnedAway
  split
  · split
    · exact h.setEntry i hx
    · exact h.settleSilent hx i
  · exact h.settle hx i _

theorem takeMatching (h : s.TableSoundFor m) (i : Nat) (f : FrameRecord) : (s.takeMatching i x f).TableSoundFor m := by
  have key : ∀ y : Exchange, y.key = x.key → ∀ t : State, t.TableSoundFor m →
      (if y.phase = .withdrawn then t.freeEntry i else t.actOnAnswer i y f).TableSoundFor m := fun y hk t ht => by
    split
    · exact ht.freeEntry i
    · exact ht.actOnAnswer (by rwa [hk]) i f
  have hlevel := h.withdrawFrame.setLevel hx (if f.kind = .absent then 8 else 1)
  unfold State.takeMatching
  dsimp only
  split
  · exact (key { x with attempts := x.attempts - 1 } rfl _ hlevel).lineIdle
  · exact (key x rfl _ hlevel).lineIdle

theorem timeoutEffect (h : s.TableSoundFor m) (i a : Nat) : (s.timeoutEffect i x a).TableSoundFor m := by
  have ht := (h.countStation .timeouts hx).advanceLevel hx
  unfold State.timeoutEffect
  dsimp only
  split
  · exact (ht.freeEntry i).lineIdle
  · unfold State.afterTimeout
    split
    · split
      · exact ht.sendAttempt hx i a
      · exact (ht.setEntry (x := { x with phase := .queued }) i hx).lineIdle
    · exact (ht.settleSilent hx i).lineIdle

end exchange

/-! ### The Dispatcher and the timers (chapters 3, 6 and 7) -/

theorem waitedTimeout (h : s.TableSoundFor m) : s.waitedTimeout.TableSoundFor m := by
  rcases s.waitedTimeout_cases with he | ⟨i, a, x, -, hx, he⟩ <;> rw [he]
  · exact h
  · exact h.timeoutEffect (h.keys i x hx) i a

theorem replyExpiry (h : s.TableSoundFor m) : s.replyExpiry.TableSoundFor m := by
  unfold State.replyExpiry
  split
  case h_1 i a t hl =>
    split
    · exact h.setLine _
    · split
      · next x hx => exact h.timeoutEffect (h.keys i x hx) i a
      · exact h.lineIdle
  all_goals exact h

theorem dispatchAnswer (h : s.TableSoundFor m) (f : FrameRecord) : (s.dispatchAnswer f).TableSoundFor m := by
  have hcount := h.countPort .d .unexpected
  have tested : ∀ i addr,
      State.TableSoundFor m
        (match s.entryAt i with
        | some x =>
          if answerMatches x addr f then s.takeMatching i x f else (s.countPort .d .unexpected).waitedTimeout
        | none => s.countPort .d .unexpected) := fun i addr => by
    split
    · next x hx =>
      split
      · exact h.takeMatching (h.keys i x hx) i f
      · exact hcount.waitedTimeout
    · exact hcount
  unfold State.dispatchAnswer
  split
  · exact hcount
  · exact tested _ _
  · exact tested _ _

theorem dTakeNow (h : s.TableSoundFor m) : s.dTakeNow.TableSoundFor m := by
  have hempty : s.emptyDSlot.TableSoundFor m := h.unread rfl
  unfold State.dTakeNow
  split
  · split
    · split
      · exact (hempty.countPort .d .unexpected).waitedTimeout
      · exact hempty.dispatchAnswer _
    · exact h
  · exact h

theorem select (h : s.TableSoundFor m) : s.select.TableSoundFor m := by
  unfold State.select
  split
  · split
    · next i _ =>
      split
      · next x hx => exact h.sendAttempt (h.keys i x hx) i _
      · exact h
    · exact h
  · exact h

theorem reAskExpiry (h : s.TableSoundFor m) (i : Nat) : (s.reAskExpiry i).TableSoundFor m := by
  unfold State.reAskExpiry
  split
  · next x hx =>
    split
    · exact h.setEntry (x := { x with phase := .queued }) i (h.keys i x hx)
    all_goals exact h
  · exact h

theorem collectionExpiry (h : s.TableSoundFor m) (i : Nat) : (s.collectionExpiry i).TableSoundFor m := by
  unfold State.collectionExpiry
  split
  · next x hx =>
    split
    · have hfree := ((h.freeEntry i).countStation .discards (h.keys i x hx)).raise .discarded
      unfold State.discardOutcome
      dsimp only
      split
      · exact hfree.unread rfl
      · exact hfree
    all_goals exact h
  · exact h

theorem requestGone (h : s.TableSoundFor m) : s.requestGone.TableSoundFor m := by
  unfold State.requestGone
  split
  · split
    · split
      · exact (h.freeEntry _).lineIdle
      · exact h.setLine _
    · exact h.lineIdle
  all_goals exact h

theorem ladderExpiry (h : s.TableSoundFor m) : s.ladderExpiry.TableSoundFor m := by
  have hall : ∀ (ks : List Nat) (t : State), t.TableSoundFor m →
      (ks.foldl (fun t k => t.stepStation (k + 1)) t).TableSoundFor m := fun ks => by
    induction ks with
    | nil => exact fun _ ht => ht
    | cons k ks ih => exact fun t ht => ih _ (ht.stepStation (k + 1))
  have ht := hall (List.range Config.stationCount) s h
  unfold State.ladderExpiry
  generalize (List.range Config.stationCount).foldl _ s = t at ht ⊢
  exact ht.unread rfl

/-! ### Withdrawal, flush, clear, pause (R57, R61, R125, R133) -/

theorem withdrawExchanges (h : s.TableSoundFor m) (own : Exchange → Bool) : (s.withdrawExchanges own).TableSoundFor m := by
  have htable : (s.withdrawTable own).TableSoundFor m := h.mapEntries rfl fun x y hy => by
    simp only [withdrawEntry, Exchange.withdrawnOrFree] at hy
    split at hy
    · split at hy <;> cases hy
      rfl
    · cases hy
      rfl
  have hwithdrawn : (s.withdrawn own).TableSoundFor m := htable.unread rfl
  refine State.TableSoundFor.settleDSettings ?_
  rcases (s.withdrawn own).dropWaitingWithdrawn_cases with he | ⟨i, a, x, -, -, -, -, he⟩ <;> rw [he]
  · exact hwithdrawn
  · exact (hwithdrawn.withdrawFrame.freeEntry i).lineIdle

theorem flush (h : s.TableSoundFor m) (a : Nat) : (s.flush a).TableSoundFor m :=
  (h.unread (t := { s with spent := s.spent.filter fun k => k.addr ≠ a }) rfl).withdrawExchanges _

theorem clearExchanges (h : s.TableSoundFor m) : s.clearExchanges.TableSoundFor m :=
  (h.unread (t := { s with spent := [], mode := .run }) rfl).withdrawExchanges fun _ => true

theorem pauseWithdraw (h : s.TableSoundFor m) : s.pauseWithdraw.TableSoundFor m := by
  unfold State.pauseWithdraw
  split
  · split
    · next x hx =>
      split
      · exact (h.withdrawFrame.setEntry (x := { x with phase := .queued, attempts := x.attempts - 1 }) _
          (h.keys _ x hx)).lineIdle
      · exact h
    · exact h
  all_goals exact h

theorem pauseFor (h : s.TableSoundFor m) (d : Nat) : (s.pauseFor d).TableSoundFor m := by
  have hmode : ∀ k, ({ s with mode := k } : State).TableSoundFor m := fun _ => h.unread rfl
  unfold State.pauseFor
  split
  · exact hmode _
  · exact (hmode _).pauseWithdraw

/-- A record of side LOCAL holds no downstream address, and the SELF record is not UNKNOWN (R80). -/
theorem learnLocal (h : s.TableSoundFor m) (a : Nat) : (s.learnLocal a).TableSoundFor m := by
  unfold State.learnLocal
  split
  · next hs =>
    have ha : a ≠ m := fun ha => by
      rw [ha, h.records.self] at hs
      simp [StationRecord.afterReset] at hs
    have hside := h.updateStation (g := fun r => { r with side := .localSide }) ha fun _ => ⟨nofun, nofun, nofun⟩
    exact (hside.flush a).raise _
  · exact h

end State.TableSoundFor

end Sys2Proof.Machine
end

section
/-! Every step keeps the Station Table sound (O54): the Request Handler, the Management Unit, the ports, and with them every command
and every step. -/

namespace Sys2Proof.Machine

theorem managementTaking_ne_stationRequest (k : Kind) (o : Object) : managementTaking k o ≠ .stationRequest := by
  unfold managementTaking
  split <;> nofun

/-- A request for the management address is never taken as a station's (R93). -/
theorem addr_ne_of_takingOf_stationRequest {m : Nat} {f : FrameRecord} (h : takingOf m f = .stationRequest) : f.addr ≠ m := by
  unfold takingOf at h
  split at h
  · cases h
  split at h
  · cases h
  split at h
  · assumption
  · exact absurd h (managementTaking_ne_stationRequest _ _)

theorem Side.ofWriteCode_ne_self (code : Nat) : Side.ofWriteCode code ≠ some .self := by
  unfold Side.ofWriteCode
  split <;> nofun

/-- The record an allowed STATION write stores fits among the others (R66, R71, R72, R75). -/
theorem StationRecord.FitsAmong.of_stationFields {s : State} {a : Nat} {payload : List Byte}
    (hb : firstBad (s.stationFields a payload) = none) {x : StationRecord}
    (hside : Side.ofWriteCode (byteAt payload 0) = some x.side)
    (halias : x.aliasAddr = writtenAlias a x.side (byteAt payload 1)) : x.FitsAmong s.stationAt a where
  side hs := Side.ofWriteCode_ne_self _ (hs ▸ hside)
  unknownAlias hu := by rw [halias, writtenAlias, if_pos hu]
  aliases c hc := by
    have hall := eq_true_of_firstBad_eq_none hb
    simp only [State.stationFields, List.forall_mem_cons, hside] at hall
    obtain ⟨-, hheld, -⟩ := hall
    simp only [StationRecord.holdsAlias, Bool.and_eq_true, Bool.or_eq_true, beq_iff_eq] at hc
    obtain ⟨hs, rfl⟩ := hc
    rw [← s.aliasHeldByOther_eq_false]
    rcases hs with hs | hs <;> simp_all [writtenAlias]

namespace State.TableSoundFor

variable {m : Nat} {s : State} {f : FrameRecord}

/-! ### The Request Handler (chapter 5) -/

theorem answerRepeat (h : s.TableSoundFor m) {i : Nat} {x : Exchange} (hx : s.entryAt i = some x) :
    (s.answerRepeat f i x).TableSoundFor m := by
  unfold State.answerRepeat
  split
  · exact ((h.freeEntry i).countStation _ (h.keys i x hx)).sendAnswer _ _
  all_goals exact h.sendAnswer _ _

theorem refuseBusy (h : s.TableSoundFor m) (hf : f.addr ≠ m) : (s.refuseBusy f).TableSoundFor m :=
  ((h.countStation _ hf).raise _).sendAnswer _ _

theorem judgeNew (h : s.TableSoundFor m) (hf : f.addr ≠ m) : (s.judgeNew f).TableSoundFor m := by
  unfold State.judgeNew
  split
  · exact h.sendAnswer _ _
  split
  · exact (h.unread (t := s.removeSpent f.key) rfl).sendAnswer _ _
  split
  · exact h.refuseBusy hf
  split
  · exact h.refuseBusy hf
  · exact (h.admitInto _ hf).sendAnswer _ _

theorem matchOrAdmit (h : s.TableSoundFor m) (hf : f.addr ≠ m) : (s.matchOrAdmit f).TableSoundFor m := by
  unfold State.matchOrAdmit
  split
  · split
    · next x hx => exact h.answerRepeat hx
    · exact h.judgeNew hf
  · exact h.judgeNew hf

theorem decideUnknown (h : s.TableSoundFor m) (hf : f.addr ≠ m) : (s.decideUnknown f).TableSoundFor m := by
  unfold State.decideUnknown
  split
  · exact h.matchOrAdmit hf
  split
  · exact h.silence
  split
  · exact (h.raise _).silence
  · exact h.setHandler fun _ _ hg => by cases hg; exact hf

theorem decideStation (h : s.TableSoundFor m) (hf : f.addr ≠ m) : (s.decideStation f).TableSoundFor m := by
  unfold State.decideStation
  split
  · split
    · exact h.decideUnknown hf
    · exact h.silence
    · exact h.matchOrAdmit hf
    · exact h.sendAnswer _ _
    · exact h.silence
  · exact h.silence

theorem decideNote (h : s.TableSoundFor m) (hf : f.addr ≠ m) : (s.decideNote f).TableSoundFor m := by
  unfold State.decideNote
  split
  · split
    · exact h.silence
    · split
      · exact (h.admitInto _ hf).silence
      · exact (h.raise _).silence
  · exact h.silence

theorem decideAnswer (h : s.TableSoundFor m) (before : Handler) : (s.decideAnswer before f).TableSoundFor m := by
  have hclash : (s.clashCheck f).TableSoundFor m := by
    unfold State.clashCheck
    split
    · exact h.countPort .u .unexpected
    · exact h
  unfold State.decideAnswer
  split
  · split
    · exact (h.learnLocal _).silence
    · exact h.silence
  all_goals exact hclash.silence

/-! ### The Management Unit (chapter 9) -/

/-- A SET keeps the condition if its effect does once its length and fields are allowed (R161). -/
theorem judgeSet (h : s.TableSoundFor m) {len : Nat} {fields : List Byte → List Bool} {mark : AnswerMark}
    {effect : List Byte → State → State}
    (he : f.payload.length = len → firstBad (fields f.payload) = none →
      (effect f.payload s.forgetMemory).TableSoundFor m) : (s.judgeSet len fields mark effect f).TableSoundFor m := by
  unfold State.judgeSet
  dsimp only
  split
  · exact h.forgetMemory.sendAnswer _ _
  · next hlen =>
    split
    · exact h.forgetMemory.sendAnswer _ _
    · next hb => exact (he (not_not.1 hlen) hb).sendAnswer _ _

theorem writePending (h : s.TableSoundFor m) (p : Port) (payload : List Byte) : (s.writePending p payload).TableSoundFor m := by
  cases p with
  | u =>
    exact h.updatePort .u (g := fun q => { q with pendingCopy := .ofPayload payload, pendingFlag := true }) fun _ hq => hq
  | d => exact h.unread rfl

theorem writeStation (h : s.TableSoundFor m) {a : Nat} (ha : a ≠ m) {payload : List Byte}
    (hb : firstBad (s.stationFields a payload) = none) :
    (s.writeStation a ((Side.ofWriteCode (byteAt payload 0)).getD .unknown) payload).TableSoundFor m := by
  obtain ⟨side, hside⟩ : ∃ side, Side.ofWriteCode (byteAt payload 0) = some side := by
    have hall := eq_true_of_firstBad_eq_none hb
    simp only [State.stationFields, List.forall_mem_cons] at hall
    exact Option.isSome_iff_exists.1 hall.1
  rw [hside, Option.getD_some]
  have hstore : (s.storeStation a side payload).TableSoundFor m := by
    have hset := h.updateStation
      (g := fun r =>
        { r with
          side := side, aliasAddr := writtenAlias a side (byteAt payload 1), cls := byteAt payload 2
          permit := byteAt payload 3 == 1 })
      ha fun _ => .of_stationFields hb hside rfl
    unfold State.storeStation
    dsimp only
    split
    · exact hset.setLevel ha 1
    · exact hset
  unfold State.writeStation
  split
  · exact hstore.flush a
  · exact hstore

/-- A write to the SELF record is refused (R75). -/
theorem decideStationWrite (h : s.TableSoundFor m) : (s.decideStationWrite f).TableSoundFor m := by
  unfold State.decideStationWrite
  dsimp only
  split
  · exact h.forgetMemory.sendAnswer _ _
  · next hself =>
    refine h.judgeSet fun hlen hb => h.forgetMemory.writeStation (fun ha => hself ⟨hlen, ?_⟩) hb
    rw [ha, h.mgmt]

theorem readAndClear (h : s.TableSoundFor m) {clear : State → State} {payload : List Byte}
    (hc : (clear s.forgetMemory).TableSoundFor m) : (s.readAndClear clear payload f).TableSoundFor m := by
  unfold State.readAndClear
  split
  · exact h.sendAnswer _ _
  · exact (hc.unread (t := { clear s.forgetMemory with memory := some ⟨f.object, f.tag, payload⟩ }) rfl).sendAnswer _ _

theorem decideManagementRequest (h : s.TableSoundFor m) : (s.decideManagementRequest f).TableSoundFor m := by
  unfold State.decideManagementRequest
  dsimp only
  split
  · exact h.forgetMemory.sendAnswer _ _
  · split
    · exact h.forgetMemory.sendAnswer _ _
    · exact h.forgetMemory.sendAnswer _ _

/-! ### Taking a frame (R26, R92 to R94) -/

/-- The decision that goes with a frame's way of being taken: a station's request does not name the management address, nor does a
NOTE. -/
theorem decide (h : s.TableSoundFor m) (hf : f.kind = .note → f.addr = 0) {t : Taking} (ht : takingOf m f = t)
    (before : Handler) : (s.decide t before f).TableSoundFor m := by
  have hm := h.forgetMemory
  cases t with
  | stationRequest => exact h.decideStation (addr_ne_of_takingOf_stationRequest ht)
  | note =>
    refine h.decideNote ?_
    rw [hf (kind_of_takingOf_note ht)]
    exact (addr_ne_zero_of_isStation h.records.address).symm
  | uAnswerFrame => exact h.decideAnswer before
  | factorAck => exact h.judgeSet fun _ _ => hm.setFactors (by simp)
  | factorLevels => exact h.judgeSet fun _ _ => hm.setFactors (by simp)
  | uPort => exact h.judgeSet fun _ _ => hm.writePending .u _
  | dPort => exact h.judgeSet fun _ _ => hm.writePending .d _
  | timing => exact h.judgeSet fun _ _ => hm.unread rfl
  | policy => exact h.judgeSet fun _ _ => hm.unread rfl
  | pause => unfold State.decide State.decidePause; exact h.judgeSet fun _ _ => hm.pauseFor _
  | flush => unfold State.decide State.decideFlush; exact h.judgeSet fun _ _ => hm.flush _
  | clear => unfold State.decide State.decideClear; exact h.judgeSet fun _ _ => hm.clearExchanges
  | restart => unfold State.decide State.decideRestart; exact h.judgeSet fun _ _ => hm
  | station => exact h.decideStationWrite
  | countersReadClear => exact h.readAndClear (hm.clearStationCounters _)
  | portCountersReadClear =>
    exact h.readAndClear ((hm.updatePort .u (g := fun q => { q with counters := .zero }) fun _ hq => hq).unread rfl)
  | managementRequest => exact h.decideManagementRequest

theorem note_of_takeable (h : s.TableSoundFor m) (hf : s.takeable = some f) : f.kind = .note → f.addr = 0 := by
  obtain ⟨-, -, hslot⟩ := (s.canTake_iff f).2 hf
  exact h.slot f hslot

theorem uTakeNow (h : s.TableSoundFor m) : s.uTakeNow.TableSoundFor m := by
  unfold State.uTakeNow
  split
  · next f hf => exact (h.beginTaking f).decide (h.note_of_takeable hf) (by rw [h.mgmt]) s.handler
  · exact h

theorem takeAs (h : s.TableSoundFor m) (t : Taking) : (s.takeAs t (State.decide t s.handler)).TableSoundFor m := by
  unfold State.takeAs
  split
  · next f hf =>
    split
    · next ht => exact (h.beginTaking f).decide (h.note_of_takeable hf) (h.mgmt ▸ ht) s.handler
    · exact h
  · exact h

theorem windowExpiry (h : s.TableSoundFor m) : s.windowExpiry.TableSoundFor m := by
  unfold State.windowExpiry
  split
  · next f t hh =>
    have hf := h.handler f t hh
    split
    · exact h.setHandler fun _ _ hg => by cases hg; exact hf
    · have hdeciding : ({ s with handler := .deciding f } : State).TableSoundFor m := h.setHandler nofun
      exact hdeciding.matchOrAdmit hf
  all_goals exact h

theorem takeStored (h : s.TableSoundFor m) (p : Port) : (s.takeStored p).TableSoundFor m := by
  cases p
  · exact h.uTakeNow
  · exact h.dTakeNow

/-! ### The ports (chapter 2) -/

theorem loseFrame (h : s.TableSoundFor m) (p : Port) (c : PortCounter) : (s.loseFrame p c).TableSoundFor m := by
  have hc := (h.updatePort p (g := fun q => { q with assembler := .hunt }) fun _ hq => hq).countPort p c
  unfold State.loseFrame
  cases p with
  | u =>
    unfold State.reportLost
    dsimp only
    split
    · exact hc.silence
    all_goals exact hc
  | d => exact hc.waitedTimeout

/-- A NOTE that is stored names no station, since it is well formed (R10). -/
theorem endFrame (h : s.TableSoundFor m) (p : Port) {chars : List Byte} {e : Option CharError}
    (hlen : byteAt chars 6 + 9 ≤ chars.length) : (s.endFrame p chars e).TableSoundFor m := by
  unfold State.endFrame State.storeFrame
  split
  · exact h.loseFrame p _
  · next f hj =>
    split
    · exact h.loseFrame p _
    · obtain ⟨-, -, hnote, -⟩ := FrameRecord.wellFormed_of_judgeFrame hj hlen
      exact (h.updatePort p (g := fun q => { q with assembler := .hunt, slot := some f })
        fun _ _ _ hg => by cases hg; exact hnote.2).countPort p _

theorem deliverCharacter (h : s.TableSoundFor m) (p : Port) (ch : RxChar) : (s.deliverCharacter p ch).TableSoundFor m := by
  have hs := h.updatePort p (g := fun q => { q with receiver := .looking, sinceLast := some 0 }) fun _ hq => hq
  unfold State.deliverCharacter
  dsimp only
  split
  · unfold State.huntCharacter
    split
    · exact hs.updatePort p fun _ hq => hq
    · exact hs.countPort p _
  · unfold State.collectCharacter
    dsimp only
    split
    · exact hs.loseFrame p _
    split
    · next hend => exact hs.endFrame p hend.2
    · exact hs.updatePort p fun _ hq => hq

theorem lineEvent (h : s.TableSoundFor m) (p : Port) (e : LineEvent) : (s.lineEvent p e).TableSoundFor m := by
  have hreceiver : ∀ r, (s.updatePort p fun q => { q with receiver := r }).TableSoundFor m := fun r =>
    h.updatePort p fun _ hq => hq
  cases e with
  | startEdge => exact hreceiver _
  | samples levels =>
    unfold State.lineEvent State.endCharacter
    dsimp only
    split
    · exact hreceiver _
    · split
      · exact hreceiver _
      · exact h.deliverCharacter p _

theorem gapExpiry (h : s.TableSoundFor m) (p : Port) : (s.gapExpiry p).TableSoundFor m := by
  unfold State.gapExpiry
  split
  · exact h.loseFrame p _
  · exact h.loseFrame p _
  all_goals exact h

theorem startSending (h : s.TableSoundFor m) (p : Port) : (s.updatePort p PortState.startSending).TableSoundFor m :=
  h.updatePort p fun q hq => by
    unfold PortState.startSending
    split <;> exact hq

theorem tick (h : s.TableSoundFor m) : s.tick.TableSoundFor m := by
  have hentries := h.mapEntries (g := Option.map Exchange.tick) rfl fun _ _ hy => by cases hy; rfl
  have hhandler : s.handler.tick.NamesNot m := fun f n hw => by
    cases hh : s.handler with
    | window g k =>
      rw [hh] at hw
      cases hw
      exact h.handler _ k hh
    | _ => rw [hh] at hw; cases hw
  have hport := (hentries.setHandler hhandler).updatePort .u (g := PortState.tick) fun _ hq => hq
  exact hport.unread rfl

/-! ### Reset (R37, R38, R70) -/

/-- A reset takes the management address from the straps and leaves the table sound under it. -/
theorem restarted (straps : Straps) (s : State) : (s.restarted straps).TableSoundFor straps.managementAddress := by
  obtain ⟨-, -, hsized⟩ := (State.sound_iff _).1 (s.restarted_sound straps)
  obtain ⟨hone, hself, hunknown, haliases⟩ := s.stationTable_restarted straps
  obtain ⟨huntouched, -⟩ := s.exchanges_restarted straps
  obtain ⟨m, h⟩ := (s.restarted straps).tableSound_iff.2 ⟨hsized, hone, huntouched, hself, hunknown, haliases⟩
  obtain rfl := h.mgmt
  exact h

/-- The end of an answer is that of a RESTART's DONE, with a new management address, or leaves the address as it is (R90, R173). -/
theorem answerGone (h : s.TableSoundFor m) (straps : Straps) : ∃ m', (s.answerGone straps).TableSoundFor m' := by
  unfold State.answerGone
  split
  · exact ⟨m, h.silence⟩
  · exact ⟨m, (h.updatePort .u (g := PortState.applyPending) fun _ hq => hq).silence⟩
  · exact ⟨m, (h.unread (t := { s with dChangeDue := true }) rfl).settleDSettings.silence⟩
  · exact ⟨_, (restarted straps s).unread (t := s.fullRestart straps) rfl⟩
  all_goals exact ⟨m, h⟩

theorem frameSent (h : s.TableSoundFor m) (p : Port) (straps : Straps) :
    ∃ m', ((s.endSending p).reportSent p straps).TableSoundFor m' := by
  have hs := (h.updatePort p
    (g := fun q => { q with tx := .idle, receiver := q.receiver.abandon, assembler := .hunt, sinceLast := some 0 })
    fun _ hq => hq).countPort p .framesOut
  cases p with
  | u => exact hs.answerGone straps
  | d => exact ⟨m, hs.requestGone⟩

/-! ### Commands and steps -/

theorem ite {c : Prop} [Decidable c] {t u : State} (ht : t.TableSoundFor m) (hu : u.TableSoundFor m) :
    (if c then t else u).TableSoundFor m := by
  split <;> assumption

/-- Every command keeps the condition, under the management address that it leaves. -/
theorem exec (h : s.TableSoundFor m) : ∀ c : Instr, ∃ t m', exec c s = .next t ∧ t.TableSoundFor m'
  | .resetNLow => ⟨_, m, rfl, (h.updatePort .u (g := PortState.hold) fun _ hq => hq).unread rfl⟩
  | .resetEnd straps => ⟨_, _, rfl, restarted straps s⟩
  | .characterReceived p e => ⟨_, m, rfl, (h.takeStored p).lineEvent p e⟩
  | .gapLimitExpiry p => ⟨_, m, rfl, ite (h.takeStored p) ((h.takeStored p).gapExpiry p)⟩
  | .transmitStart p => ⟨_, m, rfl, ite ((h.takeStored p).startSending p) (h.takeStored p)⟩
  | .frameSent p straps => by
    by_cases hs : (s.pins.resetN && s.driverEnable p) = true
    · obtain ⟨m', hm⟩ := h.frameSent p straps
      exact ⟨_, m', congrArg Host.Outcome.next (if_pos hs), hm⟩
    · exact ⟨_, m, congrArg Host.Outcome.next (if_neg hs), h⟩
  | .deafPeriodEnd => ⟨_, m, rfl, ite (h.unread rfl) h⟩
  | .discoveryWindowExpiry => ⟨_, m, rfl, ite (by split; exacts [h.uTakeNow, h.windowExpiry]) h⟩
  | .selection => ⟨_, m, rfl, h.dTakeNow.select⟩
  | .dAnswerFrame => ⟨_, m, rfl, ite h.dTakeNow h⟩
  | .foreignRequest => ⟨_, m, rfl, ite h.dTakeNow h⟩
  | .replyTimeout => ⟨_, m, rfl, ite h.dTakeNow.replyExpiry h⟩
  | .reAskExpiry i => ⟨_, m, rfl, ite (h.reAskExpiry i) h⟩
  | .collectionExpiry i => ⟨_, m, rfl, ite (h.collectionExpiry i) h⟩
  | .pauseTimerExpiry =>
    have hrun : ({ s with mode := .run } : State).TableSoundFor m := h.unread rfl
    ⟨_, m, rfl, ite (by split; exacts [hrun.raise _, h]) h⟩
  | .ladderStep => ⟨_, m, rfl, ite h.ladderExpiry h⟩
  | .stationRequest => ⟨_, m, rfl, h.takeAs .stationRequest⟩
  | .note => ⟨_, m, rfl, h.takeAs .note⟩
  | .uAnswerFrame => ⟨_, m, rfl, h.takeAs .uAnswerFrame⟩
  | .factorAck => ⟨_, m, rfl, h.takeAs .factorAck⟩
  | .factorLevels => ⟨_, m, rfl, h.takeAs .factorLevels⟩
  | .uPort => ⟨_, m, rfl, h.takeAs .uPort⟩
  | .dPort => ⟨_, m, rfl, h.takeAs .dPort⟩
  | .timing => ⟨_, m, rfl, h.takeAs .timing⟩
  | .policy => ⟨_, m, rfl, h.takeAs .policy⟩
  | .pause => ⟨_, m, rfl, h.takeAs .pause⟩
  | .flush => ⟨_, m, rfl, h.takeAs .flush⟩
  | .clear => ⟨_, m, rfl, h.takeAs .clear⟩
  | .restart => ⟨_, m, rfl, h.takeAs .restart⟩
  | .station => ⟨_, m, rfl, h.takeAs .station⟩
  | .countersReadClear => ⟨_, m, rfl, h.takeAs .countersReadClear⟩
  | .portCountersReadClear => ⟨_, m, rfl, h.takeAs .portCountersReadClear⟩
  | .managementRequest => ⟨_, m, rfl, h.takeAs .managementRequest⟩

/-- Every step keeps the condition, under the management address that it leaves. -/
theorem step (h : s.TableSoundFor m) : ∃ t m', step s = .next t ∧ t.TableSoundFor m' := by
  unfold Machine.step
  split
  · have hrest : ∀ rest, ({ s with pending := rest } : State).TableSoundFor m := fun _ => h.unread rfl
    exact (hrest _).exec _
  · split
    · exact h.exec _
    · exact ⟨_, m, rfl, ite h.tick h⟩

end State.TableSoundFor

/-- Settles O54: the condition is held under the management address that each command leaves (`TableSoundFor`), which no exchange and
no held request names; so no operation on a station's record reaches the SELF record. -/
theorem everyStepKeepsTheStationTable : Obligations.EveryStepKeepsTheStationTable := by
  intro s t hs ht
  obtain ⟨m, h⟩ := s.tableSound_iff.2 hs
  obtain ⟨u, m', hu, hm⟩ := h.step
  cases hu.symm.trans ht
  exact t.tableSound_iff.1 ⟨m', hm⟩

end Sys2Proof.Machine
end

section
/-! What SETs of the Management Unit refuse (O43) and what a STATION write stores (O51). -/

namespace Sys2Proof.Machine

/-! ### The first field out of its range (R161) -/

/-- Whether each value lies in its range, in field order. -/
def withinRanges (values : List Nat) (ranges : List (Nat × Nat)) : List Bool :=
  List.zipWith (fun v r => decide (r.1 ≤ v ∧ v ≤ r.2)) values ranges

/-- The first value outside its range stands at the first field that is not allowed. -/
theorem firstBad_withinRanges {values : List Nat} {ranges : List (Nat × Nat)} {k : Nat} (h : FirstOutside values ranges k) :
    firstBad (withinRanges values ranges) = some k := by
  obtain ⟨hk, ⟨v, r, hv, hr, hout⟩, hbefore⟩ := h
  obtain ⟨hvlt, rfl⟩ := List.getElem?_eq_some_iff.1 hv
  obtain ⟨hrlt, rfl⟩ := List.getElem?_eq_some_iff.1 hr
  have hfound : (withinRanges values ranges).findIdx? (! ·) = some (k - 1) := by
    refine List.findIdx?_eq_some_iff_getElem.2 ⟨by simp [withinRanges, hvlt, hrlt], ?_, fun j hj => ?_⟩
    · simpa only [withinRanges, List.getElem_zipWith, Bool.not_eq_true', decide_eq_false_iff_not] using hout
    · have hin := hbefore j _ _ hj (List.getElem?_eq_getElem (hj.trans hvlt)) (List.getElem?_eq_getElem (hj.trans hrlt))
      simpa only [withinRanges, List.getElem_zipWith, Bool.not_eq_true', decide_eq_false_iff_not, not_not] using hin
  rw [firstBad, hfound, Option.map_some, Nat.sub_add_cancel hk]

theorem firstBad_cons_true (fields : List Bool) : firstBad (true :: fields) = (firstBad fields).map (· + 1) := by
  simp [firstBad, List.findIdx?_cons]

theorem firstBad_cons_false (fields : List Bool) : firstBad (false :: fields) = some 1 := by
  simp [firstBad, List.findIdx?_cons]

theorem byteAt_le (payload : List Byte) (k : Nat) : byteAt payload k ≤ 255 := Nat.le_of_lt_succ (payload.getD k 0).isLt

/-- A payload of known length, byte by byte. -/
theorem byteValues_eq {payload : List Byte} {len : Nat} (h : payload.length = len) :
    byteValues payload = (List.range len).map (byteAt payload) := by
  refine List.ext_getElem (by simp [byteValues, h]) fun j hj _ => ?_
  have hj : j < payload.length := by simpa [byteValues] using hj
  simp [byteValues, byteAt, List.getD_eq_getElem?_getD, hj]

/-- The fields of a TIMING SET are allowed as their values lie in their ranges (R168). -/
theorem timingFields_eq {payload : List Byte} (h : payload.length = 8) :
    timingFields payload = withinRanges (byteValues payload) timingRanges := by
  rw [byteValues_eq h]
  simp [timingFields, withinRanges, timingRanges, List.range_succ, byteAt_le]

theorem settingsFields_eq (payload : List Byte) :
    settingsFields payload = withinRanges (portValues payload) portRanges := by
  simp [settingsFields, withinRanges, portRanges, portValues, wordAt]

theorem flushFields_eq {payload : List Byte} (h : payload.length = 1) :
    [isStation (byteAt payload 0)] = withinRanges (byteValues payload) [(1, 126)] := by
  rw [byteValues_eq h]
  rfl

/-- A SET with a field that is not allowed is refused with that field's index (R161). -/
theorem State.judgeSet_badValue (s : State) {f : FrameRecord} {len k : Nat} {fields : List Byte → List Bool}
    (hlen : f.payload.length = len) (hf : firstBad (fields f.payload) = some k) (m : AnswerMark)
    (effect : List Byte → State → State) :
    (s.beginTaking f).judgeSet len fields m effect f = s.refused f 4 k := by
  simp only [State.judgeSet, hlen, hf, ne_eq, not_true_eq_false, if_false]
  rfl

/-- A SET whose fields are values with ranges is refused with the index of the first value outside its range (R161). -/
theorem State.refused_of_firstOutside {s : State} {f : FrameRecord} {c : Instr} {len k : Nat} {fields : List Byte → List Bool}
    {m : AnswerMark} {effect : List Byte → State → State} {values : List Nat} {ranges : List (Nat × Nat)}
    (hexec : exec c s = .next ((s.beginTaking f).judgeSet len fields m effect f)) (hlen : f.payload.length = len)
    (hfields : fields f.payload = withinRanges values ranges) (hout : FirstOutside values ranges k) :
    exec c s = .next (s.refused f 4 k) := by
  rw [hexec, s.judgeSet_badValue hlen (hfields ▸ firstBad_withinRanges hout)]

/-! ### The fields of a STATION write (R75) -/

/-- A STATION write names a downstream address that may not be stored: for a side other than UNKNOWN one that is no station's, or, for
DOWNSTREAM and SCREENED, one that another record holds (R72, R75). -/
def State.RefusesAddress (s : State) (a : Nat) (payload : List Byte) : Prop :=
  byteAt payload 0 ≠ 0 ∧
    (¬ (1 ≤ byteAt payload 1 ∧ byteAt payload 1 ≤ 126) ∨
      (2 ≤ byteAt payload 0 ∧ s.HeldByAnother a (byteAt payload 1)))

theorem Side.ofWriteCode_of_gt {code : Nat} (h : 3 < code) : Side.ofWriteCode code = none := by
  unfold Side.ofWriteCode
  split
  case h_5 => rfl
  all_goals omega

theorem stationFields_of_gt (s : State) (a : Nat) {payload : List Byte} (h : 3 < byteAt payload 0) :
    firstBad (s.stationFields a payload) = some 1 := by
  rw [State.stationFields, Side.ofWriteCode_of_gt h]
  exact firstBad_cons_false _

/-- The four fields of a STATION write, once the first names a side. -/
theorem stationFields_of_le (s : State) (a : Nat) {payload : List Byte} (h : byteAt payload 0 ≤ 3) :
    ∃ addressOk : Bool, (addressOk = true ↔ ¬ s.RefusesAddress a payload) ∧
      s.stationFields a payload =
        [true, addressOk, decide (byteAt payload 2 ≤ 3), decide (byteAt payload 3 ≤ 1)] := by
  simp only [State.RefusesAddress, State.stationFields, s.heldByAnother_iff]
  generalize byteAt payload 0 = code at h ⊢
  interval_cases code <;> refine ⟨_, ?_, rfl⟩ <;> simp [Side.ofWriteCode, isStation, Config.stationCount]

/-- The step of a STATION write to another record than the SELF record judges its length and its fields (R75, R161). -/
theorem State.exec_station {s : State} {f : FrameRecord} {a : Nat} (h : s.CanManage f .set (0x0100 + a))
    (ha : isStation a = true) (hself : a ≠ s.mgmtAddr) :
    exec .station s = .next ((s.beginTaking f).judgeSet 4 (s.stationFields a) .plain
      (fun payload => State.writeStation a ((Side.ofWriteCode (byteAt payload 0)).getD .unknown) payload) f) := by
  have hexec : exec .station s = .next ((s.beginTaking f).decideStationWrite f) := by
    have he := State.exec_of_canManage h (.inr rfl)
    rwa [Object.ofNumber_station ha] at he
  obtain ⟨-, -, -, hobject⟩ := h
  have hnot : ¬ (f.payload.length = 4 ∧ a = (s.beginTaking f).mgmtAddr) := fun hc => hself hc.2
  rw [hexec, State.decideStationWrite, hobject, Nat.add_sub_cancel_left, if_neg hnot]
  rfl

/-- Settles O43: the fields are allowed as their values lie in their ranges, and a refusal names the first that is not
(`refused_of_firstOutside`). -/
theorem theFirstBadFieldIsNamed : Obligations.TheFirstBadFieldIsNamed := by
  intro s f k
  refine ⟨fun h hlen hout => ?_, fun h hlen hout => ?_, fun h hlen hout => ?_, fun h hlen hout => ?_, ?_⟩
  · have hexec : exec .timing s = .next ((s.beginTaking f).decideTiming f) := State.exec_of_canManage h (.inr rfl)
    exact State.refused_of_firstOutside hexec hlen (timingFields_eq hlen) hout
  · have hexec : exec .uPort s = .next ((s.beginTaking f).decideUPort f) := State.exec_of_canManage h (.inr rfl)
    exact State.refused_of_firstOutside hexec hlen (settingsFields_eq _) hout
  · have hexec : exec .dPort s = .next ((s.beginTaking f).decideDPort f) := State.exec_of_canManage h (.inr rfl)
    exact State.refused_of_firstOutside hexec hlen (settingsFields_eq _) hout
  · have hexec : exec .flush s = .next ((s.beginTaking f).decideFlush f) := State.exec_of_canManage h (.inr rfl)
    exact State.refused_of_firstOutside hexec hlen (flushFields_eq hlen) hout
  · intro a ha hself h hlen side written addressBad
    have refused : ∀ {k}, firstBad (s.stationFields a f.payload) = some k → exec .station s = .next (s.refused f 4 k) :=
      fun hk => by rw [State.exec_station h ha hself, s.judgeSet_badValue hlen hk]
    have fields : side ≤ 3 → ∃ addressOk : Bool, (addressOk = true ↔ ¬ addressBad) ∧
        s.stationFields a f.payload =
          [true, addressOk, decide (byteAt f.payload 2 ≤ 3), decide (byteAt f.payload 3 ≤ 1)] :=
      stationFields_of_le s a
    refine ⟨fun hside => refused (stationFields_of_gt s a hside), fun hside hbad => refused ?_,
      fun hside hok hcls => refused ?_, fun hside hok hcls hpermit => refused ?_⟩
    all_goals obtain ⟨addressOk, hiff, hfields⟩ := fields hside
    · have hno : addressOk = false := Bool.eq_false_iff.2 fun ht => hiff.1 ht hbad
      rw [hfields, hno, firstBad_cons_true, firstBad_cons_false]
      rfl
    · rw [hfields, hiff.2 hok, decide_eq_false (Nat.not_le.2 hcls), firstBad_cons_true, firstBad_cons_true,
        firstBad_cons_false]
      rfl
    · rw [hfields, hiff.2 hok, decide_eq_true hcls, decide_eq_false (Nat.not_le.2 hpermit), firstBad_cons_true,
        firstBad_cons_true, firstBad_cons_true, firstBad_cons_false]
      rfl

/-! ### An accepted STATION write (R76, R77) -/

/-- The record that a STATION write stores in the place of `before` (R71, R76). -/
def StationRecord.written (before : StationRecord) (a : Nat) (side : Side) (payload : List Byte) : StationRecord :=
  { side := side, aliasAddr := if side = .unknown then a else byteAt payload 1, cls := byteAt payload 2
    permit := decide (byteAt payload 3 = 1), level := if side = .downstream then 1 else before.level
    counters := before.counters }

theorem State.updateStation_updateStation (s : State) (a : Nat) (g g' : StationRecord → StationRecord) :
    (s.updateStation a g).updateStation a g' = s.updateStation a (g' ∘ g) := by
  unfold State.updateStation
  split
  · simp [List.modify_modify_eq]
  · rfl

/-- Setting level 1 raises no factor (R136). -/
theorem State.setLevel_one {a : Nat} (ha : isStation a = true) (s : State) :
    s.setLevel a 1 = s.updateStation a fun r => { r with level := 1 } := by
  simp [State.setLevel, ha]

theorem State.storeStation_eq {a : Nat} (ha : isStation a = true) (side : Side) (payload : List Byte) (s : State) :
    s.storeStation a side payload = s.withRecord a ((s.stationAt a).written a side payload) := by
  unfold State.storeStation StationRecord.written
  dsimp only
  split
  · rw [State.setLevel_one ha, State.updateStation_updateStation, State.updateStation_eq _ _ _ ha]
    rfl
  · rw [State.updateStation_eq _ _ _ ha]
    rfl

theorem State.writeStation_withTaking {a : Nat} (ha : isStation a = true) (side : Side) (payload : List Byte) (q : PortState)
    (k : Handler) (m : Option StoredAnswer) (s : State) :
    (s.withTaking q k m).writeStation a side payload = (s.writeStation a side payload).withTaking q k m := by
  have hstore : (s.withTaking q k m).storeStation a side payload = (s.storeStation a side payload).withTaking q k m := by
    rw [State.storeStation_eq ha, State.storeStation_eq ha]
    rfl
  unfold State.writeStation
  rw [hstore, State.flush_withTaking, apply_ite (State.withTaking q k m)]
  rfl

/-- A write is a routing change when the record it stores has another side or another downstream address (R77). -/
theorem StationRecord.routingChange_iff (before : StationRecord) (a : Nat) (side : Side) (payload : List Byte) :
    before.routingChange a side payload = true ↔
      ¬ ((before.written a side payload).side = before.side ∧
        (before.written a side payload).aliasAddr = before.aliasAddr) := by
  rw [not_and_or, StationRecord.routingChange, Bool.or_eq_true, bne_iff_ne, bne_iff_ne]
  exact or_congr ne_comm ne_comm

theorem Side.ofWriteCode_code {side : Side} (h : side ≠ .self) : Side.ofWriteCode side.code = some side := by
  cases side with
  | self => exact absurd rfl h
  | _ => rfl

/-- A STATION write whose fields are allowed is carried out before its DONE (R76, R161). -/
theorem State.exec_station_accepted {s : State} {f : FrameRecord} {a : Nat} {side : Side}
    (h : s.CanManage f .set (0x0100 + a)) (ha : isStation a = true) (hself : a ≠ s.mgmtAddr) (hlen : f.payload.length = 4)
    (hside : Side.ofWriteCode (byteAt f.payload 0) = some side) (hfields : firstBad (s.stationFields a f.payload) = none) :
    exec .station s = .next ((s.writeStation a side f.payload).managed f .done [] .plain) := by
  have hu : (s.writeStation a side f.payload).u = s.u := by
    unfold State.writeStation
    rw [State.storeStation_eq ha]
    split
    · exact State.flush_u _ _
    · rfl
  rw [State.exec_station h ha hself, State.judgeSet_accepted hlen hfields, s.forgetMemory_beginTaking f, hside,
    Option.getD_some, State.writeStation_withTaking ha, State.answerManagement_withTaking hu]

/-- Settles O51: the write is accepted and stored (`storeStation_eq`), and a routing change is a withdrawal of the station's exchanges
(`flushed_withdrawExchanges`). -/
theorem aStationWriteIsStored : Obligations.AStationWriteIsStored := by
  intro s f a side hstart ha hself h hlen hside hcode hcls hpermit haddress hheld before after
  have hwaits : s.d.tx.isWaiting = true →
      ∃ i b x, s.line = .sending i b ∧ s.entryAt i = some x ∧ x.phase = .onLine := fun hw => (hstart hw).2
  have hofCode : Side.ofWriteCode (byteAt f.payload 0) = some side := hcode ▸ Side.ofWriteCode_code hside
  have hallowed : firstBad (s.stationFields a f.payload) = none := by
    have hle : byteAt f.payload 0 ≤ 3 := by
      by_contra hgt
      cases (Side.ofWriteCode_of_gt (Nat.not_le.1 hgt)).symm.trans hofCode
    have hok : ¬ s.RefusesAddress a f.payload := by
      rintro ⟨hzero, hbad⟩
      rw [hcode] at hzero hbad
      rcases hbad with hrange | ⟨htwo, hother⟩
      · exact hrange (haddress fun hu => hzero (by rw [hu]; rfl))
      · refine hheld ?_ hother
        cases side <;> simp_all [Side.code]
    obtain ⟨addressOk, hiff, hfields⟩ := stationFields_of_le s a hle
    rw [hfields, hiff.2 hok, decide_eq_true hcls, decide_eq_true hpermit]
    rfl
  have hstored : s.storeStation a side f.payload = s.withRecord a after := State.storeStation_eq ha side f.payload s
  have hrouting := before.routingChange_iff a side f.payload
  rw [State.exec_station_accepted h ha hself hlen hofCode hallowed, State.writeStation, hstored]
  refine ⟨fun hsame => ?_, fun hchange => ⟨(s.withRecord a after).flush a, ?_, ?_⟩⟩
  · rw [if_neg fun hr => hrouting.1 hr hsame]
  · rw [if_pos (hrouting.2 hchange)]
  · rw [State.flush_eq]
    exact State.flushed_withdrawExchanges
      (s := { s.withRecord a after with spent := s.spent.filter fun k => k.addr ≠ a }) hwaits

end Sys2Proof.Machine
end

section
/-! Discovery: what closes a window on the upstream side (O32), and what an answer from downstream teaches (O36). -/

namespace Sys2Proof.Machine

/-! ### A discovery window (R80, R98 to R100) -/

theorem managementTaking_ne_uAnswerFrame (k : Kind) (o : Object) : managementTaking k o ≠ .uAnswerFrame := by
  unfold managementTaking
  split <;> nofun

/-- The answers, and no requests, are taken as answers (R92). -/
theorem takingOf_ne_uAnswerFrame {f : FrameRecord} (hf : f.kind.isRequest = true) (m : Nat) :
    takingOf m f ≠ .uAnswerFrame := by
  unfold takingOf
  rw [hf]
  split
  · next hno => cases hno
  split
  · nofun
  split
  · nofun
  · exact managementTaking_ne_uAnswerFrame _ _

/-- Only the decision on an answer asks what the handler's state was when the frame was taken (R92, R98). -/
theorem State.decide_before {t : Taking} (ht : t ≠ .uAnswerFrame) (before before' : Handler) (f : FrameRecord) (s : State) :
    s.decide t before f = s.decide t before' f := by
  cases t with
  | uAnswerFrame => exact absurd rfl ht
  | _ => rfl

/-- An answer that a window meets is decided by the address of the request it holds (R98, R99). -/
theorem State.exec_uAnswerFrame_window {s : State} {f g : FrameRecord} {τ : Nat} (h : s.CanTake f) (hh : s.handler = .window g τ)
    (hf : f.kind.isRequest = false) :
    exec .uAnswerFrame s = .next (if f.addr = g.addr then ((s.beginTaking f).learnLocal f.addr).silence
      else (s.beginTaking f).silence) := by
  have htaking : takingOf s.mgmtAddr f = .uAnswerFrame := by simp [takingOf, hf]
  have hexec : exec .uAnswerFrame s = .next s.uTakeNow := by
    have he := State.exec_taking h
    rwa [htaking] at he
  rw [hexec]
  simp only [State.uTakeNow, (s.canTake_iff f).1 h, htaking, State.decide, State.decideAnswer, hh]

/-- Discovery of a LOCAL station by the answer that is taken: its record is changed and its exchanges are flushed (R80). -/
theorem State.learnLocal_beginTaking {s : State} {f : FrameRecord} (ha : isStation f.addr = true)
    (hside : (s.stationAt f.addr).side = .unknown) :
    ((s.beginTaking f).learnLocal f.addr).silence =
      ((s.withRecord f.addr { s.stationAt f.addr with side := .localSide }).metWithSilence.flush f.addr).raise .discovered := by
  have hside' : ((s.beginTaking f).stationAt f.addr).side = .unknown := hside
  generalize hr : ({ s.stationAt f.addr with side := .localSide } : StationRecord) = r
  have hrecord : (s.beginTaking f).updateStation f.addr (fun r => { r with side := .localSide }) =
      (s.withRecord f.addr r).withTaking { s.u with slot := none } (.deciding f) s.memory := by
    rw [State.updateStation_eq _ _ _ ha, ← hr]
    rfl
  have hmet : (s.withRecord f.addr r).metWithSilence =
      (s.withRecord f.addr r).withTaking { s.u with slot := none } .idle s.memory := rfl
  rw [State.learnLocal, if_pos hside', hrecord, hmet, State.flush_withTaking, State.flush_withTaking]
  rfl

/-- Settles O32: an answer by `exec_uAnswerFrame_window`, a request because only answers are decided by what the handler's state
was, and an expiry in COLLECT by what it leaves. -/
theorem aFrameClosesTheDiscoveryWindow : Obligations.AFrameClosesTheDiscoveryWindow := by
  intro s g τ hh hr
  have canTake : ∀ {f}, s.u.slot = some f → s.CanTake f := fun hf => ⟨hr, .inr ⟨g, τ, hh⟩, hf⟩
  refine ⟨?_, fun f hf hk hother => ?_, fun f hf hk => ?_, fun hf hcollect => ?_⟩
  · intro f hf hk hg ha hstart hside s'
    have hwaits : s.d.tx.isWaiting = true →
        ∃ i b x, s.line = .sending i b ∧ s.entryAt i = some x ∧ x.phase = .onLine := fun hw => (hstart hw).2
    refine ⟨_, by rw [State.exec_uAnswerFrame_window (canTake hf) hh hk, if_pos hg, State.learnLocal_beginTaking ha hside], ?_⟩
    rw [State.flush_eq]
    exact State.flushed_withdrawExchanges (s := s') hwaits
  · have hnothing : f.addr = g.addr → (s.beginTaking f).learnLocal f.addr = s.beginTaking f := fun hg =>
      if_neg (hother.resolve_left fun hne => hne hg)
    rw [State.exec_uAnswerFrame_window (canTake hf) hh hk]
    split
    · next hg => rw [hnothing hg]; rfl
    · rfl
  · have hidle : ({ s with handler := .idle } : State).CanTake f := ⟨hr, .inl rfl, hf⟩
    have hanswer := takingOf_ne_uAnswerFrame hk s.mgmtAddr
    have hexec := State.exec_taking hidle
    rw [State.exec_taking (canTake hf), hexec]
    simp only [State.uTakeNow, (State.canTake_iff _ f).1 hidle, (s.canTake_iff f).1 (canTake hf)]
    exact congrArg _ (State.decide_before hanswer s.handler .idle f (s.beginTaking f))
  · have htake : s.takeable = none := by simp [State.takeable, hf]
    simp only [exec, execDiscoveryWindowExpiry, hr, htake, State.windowExpiry, hh, if_true]
    cases hu : s.u.assembler with
    | hunt => exact absurd hu hcollect
    | collect chars spoiled gap => rfl

/-! ### A discovery answer from downstream (R81, R122, R124) -/

/-- A settlement that teaches: discovery comes first (R122, R124). -/
theorem State.settle_eq_of_teaches (s : State) (i : Nat) {x : Exchange} {o : HeldOutcome} (ha : isStation x.key.addr = true)
    (hd : (x.discovery && o.kind.teaches) = true) :
    s.settle i x o = (s.learnDownstream x.key.addr).settledWith i x o := by
  simp only [State.settle, hd, State.settlePosted, State.settleReady, State.settledWith, State.countStation_eq _ _ _ ha]
  rfl

theorem State.stationAt_setLevel (s : State) (a level b : Nat) :
    (s.setLevel a level).stationAt b = { s.stationAt b with level := ((s.setLevel a level).stationAt b).level } := by
  have hs : ∀ t : State, t.stationAt b = (s.updateStation a fun r => { r with level := level }).stationAt b →
      t.stationAt b = { s.stationAt b with level := (t.stationAt b).level } := fun t ht => by
    rcases s.stationAt_updateStation_or a b (fun r => { r with level := level }) with he | ⟨rfl, -, he⟩ <;> rw [ht, he]
  unfold State.setLevel
  split
  · dsimp only
    split
    · exact hs _ rfl
    · exact hs _ rfl
  · rfl

/-- A matching answer moves a ladder level, and leaves every other part of the records as it was (R121). -/
theorem State.stationAt_answerTaken {s : State} {f : FrameRecord} {x : Exchange} (ha : isStation x.key.addr = true) (b : Nat) :
    (s.answerTaken f x).stationAt b = { s.stationAt b with level := ((s.answerTaken f x).stationAt b).level } := by
  have hsame : s.emptyDSlot.withdrawFrame.stationAt b = s.stationAt b := by simp [State.stationAt, State.emptyDSlot]
  rw [← s.withLine_answerTaken f x ha, ← hsame]
  exact State.stationAt_setLevel _ _ _ b

/-- Settles O36: the answer is acted on (`exec_of_canMatch`) by a settlement that teaches (`settle_eq_of_teaches`), in the three cases
of R81. -/
theorem aDiscoveryAnswerTeachesDownstream : Obligations.ADiscoveryAnswerTeachesDownstream := by
  intro s f i a x h hp hdisc hk o b taken learned
  have ha : isStation b = true := by
    obtain ⟨-, -, -, -, -, ha⟩ := h
    exact ha
  have hside : (taken.stationAt b).side = (s.stationAt b).side := by rw [State.stationAt_answerTaken ha]
  have hheld : taken.aliasHeldByOther b b = true ↔ s.HeldByAnother b b := by
    have hrecord : ∀ c, (taken.stationAt c).side = (s.stationAt c).side ∧
        (taken.stationAt c).aliasAddr = (s.stationAt c).aliasAddr := fun c => by
      rw [State.stationAt_answerTaken ha]
      exact ⟨rfl, rfl⟩
    rw [← State.heldByAnother_iff]
    simp only [State.HeldByAnother, hrecord]
  have ho : outcomeOf f = o := by
    rcases hk with hk | hk | hk <;> simp [outcomeOf, o, hk]
  have hteaches : (x.discovery && o.kind.teaches) = true := by
    rcases hk with hk | hk | hk <;> simp [o, hdisc, hk, Kind.teaches]
  have hact : taken.actOnAnswer i (x.lessWaiting s) f =
      (taken.learnDownstream b).settledWith i (x.lessWaiting s) o := by
    have hsettles : ¬ (f.kind = .wait ∨ f.kind = .busy) := by
      rcases hk with hk | hk | hk <;> simp [hk]
    rw [State.actOnAnswer, if_neg hsettles, ho]
    exact State.settle_eq_of_teaches taken i (x := x.lessWaiting s) ha hteaches
  have hexec := State.exec_of_canMatch h
  rw [if_neg (by rw [hp]; nofun), hact] at hexec
  have hlearned : (taken.updateStation b fun r => { r with side := .downstream, aliasAddr := b }).raise .discovered = learned := by
    rw [State.updateStation_eq _ _ _ ha]
  refine ⟨_, hexec, fun hu hno => ?_, fun hu hother => ?_, fun hknown => ?_⟩
  · rw [State.learnDownstream, if_neg (by rw [hside, hu]; exact not_not.2 rfl), if_neg (mt hheld.1 hno), hlearned]
    exact State.settledOn_settleDSettings _
  · rw [State.learnDownstream, if_neg (by rw [hside, hu]; exact not_not.2 rfl), if_pos (hheld.2 hother)]
    exact State.settledOn_settleDSettings _
  · rw [State.learnDownstream, if_pos (by rwa [hside])]
    exact State.settledOn_settleDSettings _

end Sys2Proof.Machine
end

section
/-! Every step keeps the answer with its handler (O58): the U transmitter holds a frame exactly while the handler is ANSWERING. -/

namespace Sys2Proof.Machine

/-! ### Where the condition is met whatever came before (R89, R90) -/

/-- An answer that is formed is handed over as the handler becomes ANSWERING (R89). -/
theorem State.answeringExact_sendAnswer (m : AnswerMark) (a : FrameRecord) (s : State) :
    (s.sendAnswer m a).AnsweringExact := fun _ => ⟨fun _ => ⟨m, rfl⟩, fun _ => nofun⟩

theorem State.answeringExact_of_idle {s : State} (ht : s.u.tx = .idle) (hh : s.handler = .idle) : s.AnsweringExact :=
  fun _ => ⟨fun hne => absurd ht hne, fun ⟨_, hm⟩ => nomatch hh.symm.trans hm⟩

/-- `matchOrAdmit` answers every request it judges (R101). -/
theorem State.answeringExact_matchOrAdmit (f : FrameRecord) (s : State) : (s.matchOrAdmit f).AnsweringExact := by
  have hanswer : ∀ (k : Kind) (t : State), (t.answer f k).AnsweringExact := fun _ t => t.answeringExact_sendAnswer _ _
  have hnew : (s.judgeNew f).AnsweringExact := by
    unfold State.judgeNew
    split
    · exact hanswer _ _
    split
    · exact hanswer _ _
    split
    · exact hanswer _ _
    split <;> exact hanswer _ _
  unfold State.matchOrAdmit
  split
  · split
    · unfold State.answerRepeat
      split
      · exact State.answeringExact_sendAnswer _ _ _
      all_goals exact hanswer _ _
    · exact hnew
  · exact hnew

/-- A SET of the Management Unit is answered, with DONE or REFUSED (R161). -/
theorem State.answeringExact_judgeSet (len : Nat) (fields : List Byte → List Bool) (m : AnswerMark)
    (effect : List Byte → State → State) (f : FrameRecord) (s : State) :
    (s.judgeSet len fields m effect f).AnsweringExact := by
  unfold State.judgeSet
  dsimp only
  split
  · exact State.answeringExact_sendAnswer _ _ _
  · split <;> exact State.answeringExact_sendAnswer _ _ _

theorem State.answeringExact_decideStationWrite (f : FrameRecord) (s : State) :
    (s.decideStationWrite f).AnsweringExact := by
  unfold State.decideStationWrite
  dsimp only
  split
  · exact State.answeringExact_sendAnswer _ _ _
  · exact State.answeringExact_judgeSet _ _ _ _ _ _

theorem State.answeringExact_readAndClear (clear : State → State) (payload : List Byte) (f : FrameRecord) (s : State) :
    (s.readAndClear clear payload f).AnsweringExact := by
  unfold State.readAndClear
  split <;> exact State.answeringExact_sendAnswer _ _ _

theorem State.answeringExact_decideManagementRequest (f : FrameRecord) (s : State) :
    (s.decideManagementRequest f).AnsweringExact := by
  unfold State.decideManagementRequest
  dsimp only
  split
  · exact State.answeringExact_sendAnswer _ _ _
  · split <;> exact State.answeringExact_sendAnswer _ _ _

/-! ### What the condition reads -/

@[simp] theorem State.countPort_u_tx (p : Port) (c : PortCounter) (s : State) : (s.countPort p c).u.tx = s.u.tx := by
  cases p <;> simp [State.countPort]

@[simp] theorem State.dispatchAnswer_u_tx (f : FrameRecord) (s : State) : (s.dispatchAnswer f).u.tx = s.u.tx := by
  unfold State.dispatchAnswer
  dsimp only
  split
  · simp
  all_goals
    split
    · split <;> simp
    · simp

@[simp] theorem State.dispatchAnswer_handler (f : FrameRecord) (s : State) : (s.dispatchAnswer f).handler = s.handler := by
  unfold State.dispatchAnswer
  dsimp only
  split
  · simp
  all_goals
    split
    · split <;> simp
    · simp

namespace State.AnsweringExact

variable {s : State} {f : FrameRecord}

theorem of_iff {t : State} (h : s.AnsweringExact) (hr : t.pins = s.pins) (ht : t.u.tx = .idle ↔ s.u.tx = .idle)
    (hh : (∃ m, t.handler = .answering m) ↔ ∃ m, s.handler = .answering m) : t.AnsweringExact := fun hhigh =>
  (not_congr ht).trans ((h (hr ▸ hhigh)).trans hh.symm)

theorem of_fields {t : State} (h : s.AnsweringExact) (hr : t.pins = s.pins) (ht : t.u.tx = s.u.tx)
    (hh : t.handler = s.handler) : t.AnsweringExact :=
  h.of_iff hr (by rw [ht]) (by rw [hh])

/-- The handler goes from one state to another in neither of which it is ANSWERING (R88). -/
theorem setHandler (h : s.AnsweringExact) (hs : ∀ m, s.handler ≠ .answering m) {k : Handler}
    (hk : ∀ m, k ≠ .answering m) : ({ s with handler := k } : State).AnsweringExact :=
  h.of_iff rfl Iff.rfl ⟨fun ⟨m, hm⟩ => absurd hm (hk m), fun ⟨m, hm⟩ => absurd hm (hs m)⟩

theorem silence (h : s.AnsweringExact) (hs : ∀ m, s.handler ≠ .answering m) : s.silence.AnsweringExact :=
  h.setHandler hs nofun

/-- A port changes outside its transmitter. -/
theorem updatePort (h : s.AnsweringExact) (p : Port) {g : PortState → PortState} (hg : ∀ q, (g q).tx = q.tx) :
    (s.updatePort p g).AnsweringExact := by
  cases p with
  | u => exact h.of_fields rfl (hg s.u) rfl
  | d => exact h.of_fields rfl rfl rfl

theorem raise (h : s.AnsweringExact) (g : Factor) : (s.raise g).AnsweringExact := h.of_fields rfl rfl rfl

theorem countPort (h : s.AnsweringExact) (p : Port) (c : PortCounter) : (s.countPort p c).AnsweringExact :=
  h.of_fields (by simp) (by simp) (by simp)

/-! ### The decisions (chapters 5 and 9) -/

theorem decideStation (h : s.AnsweringExact) (hs : ∀ m, s.handler ≠ .answering m) :
    (s.decideStation f).AnsweringExact := by
  have hunknown : (s.decideUnknown f).AnsweringExact := by
    unfold State.decideUnknown
    split
    · exact s.answeringExact_matchOrAdmit f
    split
    · exact h.silence hs
    split
    · exact (h.raise .aliasConflict).silence hs
    · exact h.setHandler hs nofun
  unfold State.decideStation
  split
  · split
    · exact hunknown
    · exact h.silence hs
    · exact s.answeringExact_matchOrAdmit f
    · exact State.answeringExact_sendAnswer _ _ _
    · exact h.silence hs
  · exact h.silence hs

theorem decideNote (h : s.AnsweringExact) (hs : ∀ m, s.handler ≠ .answering m) : (s.decideNote f).AnsweringExact := by
  unfold State.decideNote
  split
  · split
    · exact h.silence hs
    · split
      · next i _ =>
        have hadmitted : (s.admitInto i f).AnsweringExact := h.of_fields (by simp) (by simp) (by simp)
        exact hadmitted.silence (by simpa using hs)
      · exact (h.raise .capacity).silence hs
  · exact h.silence hs

theorem decideAnswer (h : s.AnsweringExact) (hs : ∀ m, s.handler ≠ .answering m) (before : Handler) :
    (s.decideAnswer before f).AnsweringExact := by
  have hclash : (s.clashCheck f).silence.AnsweringExact := by
    unfold State.clashCheck
    split
    · exact (h.countPort .u .unexpected).silence (by simpa using hs)
    · exact h.silence hs
  unfold State.decideAnswer
  split
  · split
    · have hlearned : (s.learnLocal f.addr).AnsweringExact := h.of_fields (by simp) (by simp) (by simp)
      exact hlearned.silence (by simpa using hs)
    · exact h.silence hs
  all_goals exact hclash

/-- A decision ends with an answer handed over, or with the handler IDLE or in WINDOW and nothing handed over. -/
theorem decide (h : s.AnsweringExact) (hs : ∀ m, s.handler ≠ .answering m) (t : Taking) (before : Handler) :
    (s.decide t before f).AnsweringExact := by
  cases t with
  | stationRequest => exact h.decideStation hs
  | note => exact h.decideNote hs
  | uAnswerFrame => exact h.decideAnswer hs before
  | station => exact s.answeringExact_decideStationWrite f
  | countersReadClear => exact State.answeringExact_readAndClear _ _ f s
  | portCountersReadClear => exact State.answeringExact_readAndClear _ _ f s
  | managementRequest => exact s.answeringExact_decideManagementRequest f
  | _ => exact State.answeringExact_judgeSet _ _ _ _ f s

/-! ### Taking a frame (R26) -/

/-- The handler takes a frame in IDLE or WINDOW, and the U transmitter is empty then (R88). -/
theorem beginTaking (h : s.AnsweringExact) (hf : s.takeable = some f) : (s.beginTaking f).AnsweringExact := by
  have hs : ∀ m, s.handler ≠ .answering m := by
    obtain ⟨-, hidle | ⟨g, n, hwindow⟩, -⟩ := (s.canTake_iff f).2 hf
    · simp [hidle]
    · simp [hwindow]
  have hempty := h.updatePort .u (g := fun q => { q with slot := none }) fun _ => rfl
  exact hempty.setHandler hs (k := .deciding f) nofun

theorem uTakeNow (h : s.AnsweringExact) : s.uTakeNow.AnsweringExact := by
  unfold State.uTakeNow
  split
  · next f hf => exact (h.beginTaking hf).decide nofun _ _
  · exact h

theorem takeAs (h : s.AnsweringExact) (t : Taking) : (s.takeAs t (State.decide t s.handler)).AnsweringExact := by
  unfold State.takeAs
  split
  · next f hf =>
    split
    · exact (h.beginTaking hf).decide nofun _ _
    · exact h
  · exact h

theorem windowExpiry (h : s.AnsweringExact) : s.windowExpiry.AnsweringExact := by
  unfold State.windowExpiry
  split
  · next g n hh =>
    split
    · exact h.setHandler (by simp [hh]) nofun
    · exact State.answeringExact_matchOrAdmit _ _
  all_goals exact h

/-! ### The Dispatcher and the timers (chapters 3, 6 and 7) -/

theorem waitedTimeout (h : s.AnsweringExact) : s.waitedTimeout.AnsweringExact :=
  h.of_fields (by simp) (by simp) (by simp)

theorem dTakeNow (h : s.AnsweringExact) : s.dTakeNow.AnsweringExact := by
  have hempty : s.emptyDSlot.AnsweringExact := h.updatePort .d fun _ => rfl
  unfold State.dTakeNow
  split
  · split
    · split
      · exact (hempty.countPort .d .unexpected).waitedTimeout
      · exact hempty.of_fields (by simp) (by simp) (by simp)
    · exact h
  · exact h

theorem takeStored (h : s.AnsweringExact) (p : Port) : (s.takeStored p).AnsweringExact := by
  cases p with
  | u => exact h.uTakeNow
  | d => exact h.dTakeNow

theorem select (h : s.AnsweringExact) : s.select.AnsweringExact := by
  unfold State.select
  split
  · split
    · split
      · exact h.of_fields (by simp) (by simp) (by simp)
      · exact h
    · exact h
  · exact h

theorem replyExpiry (h : s.AnsweringExact) : s.replyExpiry.AnsweringExact := by
  unfold State.replyExpiry
  split
  case h_1 i a t hl =>
    split
    · exact h.of_fields rfl rfl rfl
    · split
      · exact h.of_fields (by simp) (by simp) (by simp)
      · exact h.of_fields (by simp) (by simp) (by simp)
  all_goals exact h

theorem reAskExpiry (h : s.AnsweringExact) (i : Nat) : (s.reAskExpiry i).AnsweringExact := by
  unfold State.reAskExpiry
  split
  · split
    · exact h.of_fields rfl rfl rfl
    all_goals exact h
  · exact h

theorem collectionExpiry (h : s.AnsweringExact) (i : Nat) : (s.collectionExpiry i).AnsweringExact := by
  unfold State.collectionExpiry
  split
  · split
    · unfold State.discardOutcome
      dsimp only
      split
      · exact h.of_fields (by simp) (by simp) (by simp)
      · exact h.of_fields (by simp) (by simp) (by simp)
    all_goals exact h
  · exact h

theorem stepStation (h : s.AnsweringExact) (a : Nat) : (s.stepStation a).AnsweringExact := by
  unfold State.stepStation
  split
  · exact h.of_fields (by simp) (by simp) (by simp)
  · exact h

theorem ladderExpiry (h : s.AnsweringExact) : s.ladderExpiry.AnsweringExact := by
  have hall := List.foldlRecOn (motive := State.AnsweringExact) (List.range Config.stationCount)
    (fun t k => t.stepStation (k + 1)) h fun t ht k _ => ht.stepStation (k + 1)
  unfold State.ladderExpiry
  generalize (List.range Config.stationCount).foldl _ s = t at hall ⊢
  exact hall.of_fields rfl rfl rfl

theorem requestGone (h : s.AnsweringExact) : s.requestGone.AnsweringExact := by
  unfold State.requestGone
  split
  · split
    · split
      · exact h.of_fields (by simp) (by simp) (by simp)
      · exact h.of_fields rfl rfl rfl
    · exact h.of_fields (by simp) (by simp) (by simp)
  all_goals exact h

/-! ### The ports (chapter 2) and time -/

theorem loseFrame (h : s.AnsweringExact) (p : Port) (c : PortCounter) : (s.loseFrame p c).AnsweringExact := by
  have hcounted := (h.updatePort p (g := fun q => { q with assembler := .hunt }) fun _ => rfl).countPort p c
  cases p with
  | u =>
    unfold State.loseFrame State.reportLost
    dsimp only
    split
    · next g n hh => exact hcounted.silence (by rw [hh]; nofun)
    all_goals exact hcounted
  | d => exact hcounted.waitedTimeout

theorem endFrame (h : s.AnsweringExact) (p : Port) (chars : List Byte) (e : Option CharError) :
    (s.endFrame p chars e).AnsweringExact := by
  unfold State.endFrame State.storeFrame
  split
  · exact h.loseFrame p _
  · split
    · exact h.loseFrame p _
    · exact (h.updatePort p (g := fun q => { q with assembler := .hunt, slot := some _ }) fun _ => rfl).countPort p _

theorem deliverCharacter (h : s.AnsweringExact) (p : Port) (ch : RxChar) : (s.deliverCharacter p ch).AnsweringExact := by
  have hheard := h.updatePort p (g := fun q => { q with receiver := .looking, sinceLast := some 0 }) fun _ => rfl
  unfold State.deliverCharacter
  dsimp only
  split
  · unfold State.huntCharacter
    split
    · exact hheard.updatePort p fun _ => rfl
    · exact hheard.countPort p _
  · unfold State.collectCharacter
    dsimp only
    split
    · exact hheard.loseFrame p _
    split
    · exact hheard.endFrame p _ _
    · exact hheard.updatePort p fun _ => rfl

theorem lineEvent (h : s.AnsweringExact) (p : Port) (e : LineEvent) : (s.lineEvent p e).AnsweringExact := by
  have hreceiver : ∀ r, (s.updatePort p fun q => { q with receiver := r }).AnsweringExact := fun _ =>
    h.updatePort p fun _ => rfl
  cases e with
  | startEdge => exact hreceiver _
  | samples levels =>
    unfold State.lineEvent State.endCharacter
    dsimp only
    split
    · exact hreceiver _
    · split
      · exact hreceiver _
      · exact h.deliverCharacter p _

theorem gapExpiry (h : s.AnsweringExact) (p : Port) : (s.gapExpiry p).AnsweringExact := by
  unfold State.gapExpiry
  split
  · exact h.loseFrame p _
  · exact h.loseFrame p _
  all_goals exact h

/-- A frame that starts is in the transmitter before and after (R29). -/
theorem startSending (h : s.AnsweringExact) (p : Port) : (s.updatePort p PortState.startSending).AnsweringExact := by
  have htx : ∀ q : PortState, q.startSending.tx = .idle ↔ q.tx = .idle := fun q => by
    unfold PortState.startSending
    split
    · next f hq => simp [hq]
    all_goals rfl
  cases p with
  | u => exact h.of_iff rfl (htx s.u) Iff.rfl
  | d => exact h.of_fields rfl rfl rfl

/-- The end of the answer leaves the U transmitter empty and the handler IDLE (R90). -/
theorem frameSent (h : s.AnsweringExact) (p : Port) (straps : Straps) (hr : s.pins.resetN = true)
    (hd : s.driverEnable p = true) : ((s.endSending p).reportSent p straps).AnsweringExact := by
  cases p with
  | u =>
    have hsending : s.u.tx ≠ .idle := fun hidle => by simp [State.driverEnable, hidle, Transmitter.driverEnable] at hd
    obtain ⟨m, hm⟩ := (h hr).1 hsending
    have hgone : (s.endSending .u).u.tx = .idle := by simp [State.endSending]
    unfold State.reportSent State.answerGone
    simp only [State.endSending_handler, hm]
    cases m with
    | plain => exact State.answeringExact_of_idle hgone rfl
    | uSettings => exact State.answeringExact_of_idle hgone rfl
    | dSettings => exact State.answeringExact_of_idle (by simpa using hgone) rfl
    | restart => exact State.answeringExact_of_idle rfl rfl
  | d =>
    have hended : (s.endSending .d).AnsweringExact := State.AnsweringExact.countPort (h.of_fields rfl rfl rfl) .d .framesOut
    exact hended.requestGone

theorem tick (h : s.AnsweringExact) : s.tick.AnsweringExact := by
  refine h.of_iff rfl ?_ ?_
  · show s.u.tick.tx = .idle ↔ s.u.tx = .idle
    cases hu : s.u.tx <;> simp [PortState.tick, hu]
  · show (∃ m, s.handler.tick = .answering m) ↔ _
    cases hh : s.handler <;> simp [Handler.tick]

/-! ### Commands and steps -/

theorem ite {c : Prop} [Decidable c] {t u : State} (ht : c → t.AnsweringExact) (hu : u.AnsweringExact) :
    (if c then t else u).AnsweringExact := by
  split
  · next hc => exact ht hc
  · exact hu

/-- Every command keeps the condition. -/
theorem exec (h : s.AnsweringExact) : ∀ c : Instr, ∃ t, exec c s = .next t ∧ t.AnsweringExact
  | .resetNLow => ⟨_, rfl, nofun⟩
  | .resetEnd _ => ⟨_, rfl, State.answeringExact_of_idle rfl rfl⟩
  | .characterReceived p e => ⟨_, rfl, (h.takeStored p).lineEvent p e⟩
  | .gapLimitExpiry p => by
    refine ⟨_, rfl, ?_⟩
    split
    · exact h.takeStored p
    · exact (h.takeStored p).gapExpiry p
  | .transmitStart p => ⟨_, rfl, ite (fun _ => (h.takeStored p).startSending p) (h.takeStored p)⟩
  | .frameSent p straps => by
    refine ⟨_, rfl, ite (fun hc => ?_) h⟩
    rw [Bool.and_eq_true] at hc
    exact h.frameSent p straps hc.1 hc.2
  | .deafPeriodEnd => ⟨_, rfl, ite (fun _ => h.of_fields rfl rfl rfl) h⟩
  | .discoveryWindowExpiry => ⟨_, rfl, ite (fun _ => by split; exacts [h.uTakeNow, h.windowExpiry]) h⟩
  | .selection => ⟨_, rfl, h.dTakeNow.select⟩
  | .dAnswerFrame => ⟨_, rfl, ite (fun _ => h.dTakeNow) h⟩
  | .foreignRequest => ⟨_, rfl, ite (fun _ => h.dTakeNow) h⟩
  | .replyTimeout => ⟨_, rfl, ite (fun _ => h.dTakeNow.replyExpiry) h⟩
  | .reAskExpiry i => ⟨_, rfl, ite (fun _ => h.reAskExpiry i) h⟩
  | .collectionExpiry i => ⟨_, rfl, ite (fun _ => h.collectionExpiry i) h⟩
  | .pauseTimerExpiry => ⟨_, rfl, ite (fun _ => by split; exacts [h.of_fields rfl rfl rfl, h]) h⟩
  | .ladderStep => ⟨_, rfl, ite (fun _ => h.ladderExpiry) h⟩
  | .stationRequest => ⟨_, rfl, h.takeAs .stationRequest⟩
  | .note => ⟨_, rfl, h.takeAs .note⟩
  | .uAnswerFrame => ⟨_, rfl, h.takeAs .uAnswerFrame⟩
  | .factorAck => ⟨_, rfl, h.takeAs .factorAck⟩
  | .factorLevels => ⟨_, rfl, h.takeAs .factorLevels⟩
  | .uPort => ⟨_, rfl, h.takeAs .uPort⟩
  | .dPort => ⟨_, rfl, h.takeAs .dPort⟩
  | .timing => ⟨_, rfl, h.takeAs .timing⟩
  | .policy => ⟨_, rfl, h.takeAs .policy⟩
  | .pause => ⟨_, rfl, h.takeAs .pause⟩
  | .flush => ⟨_, rfl, h.takeAs .flush⟩
  | .clear => ⟨_, rfl, h.takeAs .clear⟩
  | .restart => ⟨_, rfl, h.takeAs .restart⟩
  | .station => ⟨_, rfl, h.takeAs .station⟩
  | .countersReadClear => ⟨_, rfl, h.takeAs .countersReadClear⟩
  | .portCountersReadClear => ⟨_, rfl, h.takeAs .portCountersReadClear⟩
  | .managementRequest => ⟨_, rfl, h.takeAs .managementRequest⟩

/-- Every step keeps the condition. -/
theorem step (h : s.AnsweringExact) : ∃ t, step s = .next t ∧ t.AnsweringExact := by
  unfold Machine.step
  split
  · next c rest _ =>
    have hrest : ({ s with pending := rest } : State).AnsweringExact := h.of_fields rfl rfl rfl
    exact hrest.exec c
  · split
    · exact h.exec _
    · exact ⟨_, rfl, ite (fun _ => h.tick) h⟩

end State.AnsweringExact

/-- Settles O58: a decision hands an answer over or leaves the handler IDLE or in WINDOW (`decide`), the end of the answer leaves it
IDLE with the U transmitter empty (`frameSent`), and no other operation touches either (`of_fields`). -/
theorem everyStepKeepsTheAnswerWithItsHandler : Obligations.EveryStepKeepsTheAnswerWithItsHandler := by
  intro s t h ht
  obtain ⟨u, hu, hexact⟩ := h.step
  cases hu.symm.trans ht
  exact hexact

end Sys2Proof.Machine
end

section
/-! The requests of stations (chapter 5): what the side of the record decides (O22, O23), and what `matchOrAdmit` makes of a request
(O24, O26 to O29). -/

namespace Sys2Proof.Machine

/-! ### Taking a station's request (R95) -/

/-- The step that a frame is for takes it and decides it (R26, R89). -/
theorem State.exec_of_takingOf {s : State} {f : FrameRecord} {t : Taking} (h : s.CanTake f) (ht : takingOf s.mgmtAddr f = t) :
    exec t.command s = .next ((s.beginTaking f).decide t s.handler f) := by
  rw [← ht, State.exec_taking h]
  simp only [State.uTakeNow, (s.canTake_iff f).1 h]

/-- An ASK or SET for another address than the management address is taken as a station's request (section 5.2). -/
theorem State.exec_stationRequest {s : State} {f : FrameRecord} (h : s.CanTake f) (hk : f.kind = .ask ∨ f.kind = .set)
    (ha : f.addr ≠ s.mgmtAddr) : exec .stationRequest s = .next ((s.beginTaking f).decideStation f) := by
  have htaking : takingOf s.mgmtAddr f = .stationRequest := by
    rcases hk with hk | hk <;> simp [takingOf, hk, Kind.isRequest, ha]
  exact State.exec_of_takingOf h htaking

/-- Settles O22: the request is taken, and decided by the side of its record. -/
theorem theSideDecidesTheAnswer : Obligations.TheSideDecidesTheAnswer := by
  rintro s f ⟨h, hk, ha, hm⟩
  have hside : ((s.beginTaking f).stationAt f.addr).side = (s.stationAt f.addr).side := rfl
  rw [State.exec_stationRequest h hk hm, State.decideStation, if_pos ha, hside]
  refine ⟨fun hlocal => ?_, fun hscreened => ?_, fun hdown => ?_⟩
  · rw [hlocal]
    rfl
  · rw [hscreened]
    rfl
  · rw [hdown]
    rfl

/-- An answer taken in IDLE is checked for an address clash and dropped (R92). -/
theorem State.exec_uAnswerFrame_idle {s : State} {f : FrameRecord} (h : s.CanTake f) (hh : s.handler = .idle)
    (hf : f.kind.isRequest = false) : exec .uAnswerFrame s = .next ((s.beginTaking f).clashCheck f).silence := by
  have htaking : takingOf s.mgmtAddr f = .uAnswerFrame := by simp [takingOf, hf]
  have hexec : exec .uAnswerFrame s = .next ((s.beginTaking f).decideAnswer s.handler f) := State.exec_of_takingOf h htaking
  rw [hexec, hh]
  rfl

/-- Settles O23: CLOSED, the lookup of R72 and the window in the order of R96; an address with no record has no decision. -/
theorem anUnknownStationIsJudgedInOrder : Obligations.AnUnknownStationIsJudgedInOrder := by
  refine ⟨?_, fun s f h hm ha => ⟨fun hk => ?_, fun hans hh => ?_⟩⟩
  · rintro s f ⟨h, hk, ha, hm⟩ hunknown hnew
    have hside : ((s.beginTaking f).stationAt f.addr).side = .unknown := hunknown
    have hfound : (s.beginTaking f).liveEntry f.key = none := (s.noLiveEntry_iff f).1 hnew
    have hheld : (s.beginTaking f).aliasHeldByOther f.addr f.addr = true ↔ s.HeldByAnother f.addr f.addr :=
      (s.heldByAnother_iff f.addr f.addr).symm
    have hpolicy : s.policy = .opened → ¬ s.policy = .closed := fun hopen hclosed => nomatch hopen.symm.trans hclosed
    have hexec : exec .stationRequest s = .next ((s.beginTaking f).decideUnknown f) := by
      rw [State.exec_stationRequest h hk hm, State.decideStation, if_pos ha, hside]
    rw [hexec, State.decideUnknown, hfound, State.beginTaking_policy]
    refine ⟨fun hclosed => ?_, fun hopen hother => ?_, fun hopen hno => ?_⟩
    · rw [if_pos hclosed]
      rfl
    · rw [if_neg (hpolicy hopen), if_pos (hheld.2 hother)]
      rfl
    · rw [if_neg (hpolicy hopen), if_neg (mt hheld.1 hno)]
      rfl
  · rw [State.exec_stationRequest h hk hm, State.decideStation, ha]
    rfl
  · rw [State.exec_uAnswerFrame_idle h hh hans, State.clashCheck, ha]
    rfl

/-! ### The sequence of `matchOrAdmit` (R101 to R107) -/

/-- What is answered with nothing else changed is the request taken, answered with the summary as it stands (R15). -/
theorem State.answer_beginTaking (s : State) (f : FrameRecord) (k : Kind) :
    (s.beginTaking f).answer f k = s.answeredWith f k s.summary [] .plain := rfl

/-- Settles O24: the live entry of the key is the given one, and is not READY. -/
theorem aRepeatIsAnsweredWithoutChange : Obligations.ARepeatIsAnsweredWithoutChange := by
  intro s c f i x h hd hx hk hp
  have hlive : x.isLive = true := x.isLive_iff.2 (by rcases hp with hp | hp | ⟨n, hp⟩ <;> rw [hp] <;> nofun)
  have hfound : (s.beginTaking f).liveEntry f.key = some i := s.liveEntry_of_distinct hd f.key i x hx hlive hk
  have hentry : (s.beginTaking f).entryAt i = some x := hx
  have hanswer : (s.beginTaking f).answerRepeat f i x =
      (s.beginTaking f).answer f (if x.posted then .done else .wait) := by
    rcases hp with hp | hp | ⟨n, hp⟩ <;> simp only [State.answerRepeat, hp]
  have hexec : exec c s = .next ((s.beginTaking f).matchOrAdmit f) := s.exec_of_judges c f h
  rw [hexec]
  simp only [State.matchOrAdmit, hfound, hentry, hanswer, State.answer_beginTaking]

/-- A request no live entry holds the key of goes to steps 2 to 5 (R101). -/
theorem State.exec_of_judges_new {s : State} {c : Instr} {f : FrameRecord} (h : s.Judges c f) (hnew : s.NoLiveEntry f) :
    exec c s = .next ((s.beginTaking f).judgeNew f) := by
  have hfound : (s.beginTaking f).liveEntry f.key = none := (s.noLiveEntry_iff f).1 hnew
  have hexec : exec c s = .next ((s.beginTaking f).matchOrAdmit f) := s.exec_of_judges c f h
  rw [hexec, State.matchOrAdmit, hfound]

/-- Settles O26: step 2 asks for the write permit before anything else (R104). -/
theorem aNewWriteWithoutPermitIsDenied : Obligations.ANewWriteWithoutPermitIsDenied := by
  intro s c f h hnew hset hpermit
  have hdenied : f.kind = .set ∧ ((s.beginTaking f).stationAt f.addr).permit = false := ⟨hset, hpermit⟩
  rw [State.exec_of_judges_new h hnew, State.judgeNew, if_pos hdenied, State.answer_beginTaking]

/-- Settles O27: step 3, with the key taken out of the Spent List (R105). -/
theorem aSpentWriteIsAnsweredStaleOnce : Obligations.ASpentWriteIsAnsweredStaleOnce := by
  intro s c f h hnew hset hpermit hposted hspent
  have hallowed : ¬ (f.kind = .set ∧ ((s.beginTaking f).stationAt f.addr).permit = false) := fun hdenied =>
    Bool.false_ne_true (hdenied.2.symm.trans hpermit)
  have hstale : f.kind = .set ∧ f.posted = false ∧ f.key ∈ (s.beginTaking f).spent := ⟨hset, hposted, hspent⟩
  rw [State.exec_of_judges_new h hnew, State.judgeNew, if_neg hallowed, if_pos hstale]
  rfl

/-- A SET that is permitted and not spent, or an ASK, comes to steps 4 and 5: whether there is room (R106, R107). -/
theorem State.exec_of_judges_allowed {s : State} {c : Instr} {f : FrameRecord} (h : s.Judges c f) (hnew : s.NoLiveEntry f)
    (hset : f.kind = .set → (s.stationAt f.addr).permit = true ∧ (f.posted = false → f.key ∉ s.spent)) :
    exec c s = .next
      (if s.timing.share ≤ s.liveCount f.addr then (s.beginTaking f).refuseBusy f
      else match s.freeIndex with
        | none => (s.beginTaking f).refuseBusy f
        | some i => (s.beginTaking f).admitAndAnswer f i) := by
  have hallowed : ¬ (f.kind = .set ∧ ((s.beginTaking f).stationAt f.addr).permit = false) := fun ⟨hk, hdenied⟩ =>
    Bool.false_ne_true (hdenied.symm.trans (hset hk).1)
  have hunspent : ¬ (f.kind = .set ∧ f.posted = false ∧ f.key ∈ (s.beginTaking f).spent) := fun ⟨hk, hposted, hspent⟩ =>
    (hset hk).2 hposted hspent
  rw [State.exec_of_judges_new h hnew, State.judgeNew, if_neg hallowed, if_neg hunspent]
  rfl

/-- Settles O28: both conditions of step 4 come to the one refusal (R106). -/
theorem aRequestWithoutRoomIsAnsweredBusy : Obligations.ARequestWithoutRoomIsAnsweredBusy := by
  intro s c f h hsized hnew hset hroom t
  have hrefuse : (s.beginTaking f).refuseBusy f = t.answeredWith f .busy t.summary [] .plain := by
    rw [State.refuseBusy, State.countStation_eq _ _ _ h.isStation]
    rfl
  rw [State.exec_of_judges_allowed h hnew hset]
  rcases hroom with hshare | hfull
  · rw [if_pos hshare, hrefuse]
  · rw [s.freeIndex_of_full hsized hfull, hrefuse, ite_self]

/-- An ASK or SET is admitted with its station's class, and is counted ADMITTED there (R43). -/
theorem State.admitInto_eq {s : State} {f : FrameRecord} (hk : f.kind ≠ .note) (ha : isStation f.addr = true) (i : Nat) :
    s.admitInto i f =
      { (s.withEntry i (some (newExchange f ((s.stationAt f.addr).side == .unknown) (s.stationAt f.addr).cls))).withRecord
          f.addr { s.stationAt f.addr with counters := (s.stationAt f.addr).counters.bump .admitted } with
        order := s.order ++ [i], spent := s.spent.filter (· ≠ f.key) } := by
  have hnote : (f.kind == .note) = false := beq_eq_false_iff_ne.2 hk
  simp only [State.admitInto, hnote, State.countStation_eq _ _ _ ha]
  rfl

theorem State.Judges.kind_ne_note {s : State} {c : Instr} {f : FrameRecord} (h : s.Judges c f) : f.kind ≠ .note := by
  have hk : f.kind = .ask ∨ f.kind = .set := by
    rcases h with ⟨-, ⟨-, hk, -⟩, -⟩ | ⟨-, -, -, -, -, hk, -⟩ <;> exact hk
  rcases hk with hk | hk <;> simp [hk]

/-- Settles O29: the lowest FREE entry is the one the table finds, and takes the request as `admitInto_eq` says. -/
theorem admissionTakesTheLowestFreeEntry : Obligations.AdmissionTakesTheLowestFreeEntry := by
  intro s c f i h hsized hnew hset hshare hfree x t
  have hadmit : (s.beginTaking f).admitAndAnswer f i =
      t.answeredWith f (if f.kind = .set ∧ f.posted = true then .done else .wait) s.summary [] .plain := by
    rw [State.admitAndAnswer, State.admitInto_eq h.kind_ne_note h.isStation]
    rfl
  rw [State.exec_of_judges_allowed h hnew hset, if_neg (Nat.not_le.2 hshare), s.freeIndex_of_lowestFree i hsized hfree]
  exact congrArg Host.Outcome.next hadmit

end Sys2Proof.Machine
end

section
/-! NOTEs (O30), and answers on U outside a window (O31). -/

namespace Sys2Proof.Machine

/-! ### NOTEs (R94) -/

/-- A NOTE is taken as one, whatever its address (section 5.2). -/
theorem State.exec_note {s : State} {f : FrameRecord} (h : s.CanTake f) (hk : f.kind = .note) :
    exec .note s = .next ((s.beginTaking f).decideNote f) := by
  have htaking : takingOf s.mgmtAddr f = .note := by simp [takingOf, hk, Kind.isRequest]
  exact State.exec_of_takingOf h htaking

/-- A NOTE is admitted with class 0, and counted at no station (R43). -/
theorem State.admitInto_note {s : State} {f : FrameRecord} (hk : f.kind = .note) (i : Nat) :
    s.admitInto i f =
      { s.withEntry i (some (newExchange f false 0)) with
        order := s.order ++ [i], spent := s.spent.filter (· ≠ f.key) } := by
  have hnote : (f.kind == .note) = true := beq_iff_eq.2 hk
  simp only [State.admitInto, hnote]
  rfl

theorem newExchange_note {f : FrameRecord} (hk : f.kind = .note) :
    newExchange f false 0 =
      { phase := .queued, key := ⟨f.addr, .note, f.object, f.tag⟩, posted := false, discovery := false, cls := 0
        payload := f.payload, attempts := 0, reAsks := 0 } := by
  simp [newExchange, FrameRecord.key, hk]

/-- Settles O30: forwarding, a live entry of the key and room are asked in turn, and every case ends in silence. -/
theorem aNoteIsForwardedOrDropped : Obligations.ANoteIsForwardedOrDropped := by
  intro s f h hk hsized
  rw [State.exec_note h hk, State.decideNote, State.beginTaking_forwarding]
  have hlookup : (s.beginTaking f).liveEntry f.key = s.liveEntry f.key := rfl
  have hfree : (s.beginTaking f).freeIndex = s.freeIndex := rfl
  rw [hlookup, hfree]
  have hvacant : s.NoLiveEntry f → ¬ (s.liveEntry f.key).isSome = true := fun hnew => by
    rw [(s.noLiveEntry_iff f).1 hnew]
    nofun
  refine ⟨fun hoff => ?_, fun hon ⟨i, x, hx, hlive, hkey⟩ => ?_, fun i hon hnew hlowest => ?_, fun hon hnew hfull => ?_⟩
  · rw [hoff]
    rfl
  · have hheld : (s.liveEntry f.key).isSome = true :=
      Option.isSome_iff_ne_none.2 fun hnone => s.liveEntry_none f.key hnone i x hx hlive hkey
    rw [if_pos hon, if_pos hheld]
    rfl
  · rw [if_pos hon, if_neg (hvacant hnew), s.freeIndex_of_lowestFree i hsized hlowest, ← newExchange_note hk]
    simp only [State.admitInto_note hk]
    rfl
  · rw [if_pos hon, if_neg (hvacant hnew), s.freeIndex_of_full hsized hfull]
    rfl

/-! ### Answers outside a window (R92) -/

/-- Settles O31: the clash check looks for the sides that have their stations downstream. -/
theorem anAnswerOutsideAWindowIsClashChecked : Obligations.AnAnswerOutsideAWindowIsClashChecked := by
  intro s f h hh hans ha
  rw [State.exec_uAnswerFrame_idle h hh hans, State.clashCheck]
  refine ⟨fun hclash => ?_, fun hdown hscreened => ?_⟩
  · rw [if_pos ⟨ha, hclash⟩]
    rfl
  · rw [if_neg fun hboth => hboth.2.elim hdown hscreened]
    rfl

end Sys2Proof.Machine
end

section
/-! The selection (O33): the entry it picks, and the states that make none. -/

namespace Sys2Proof.Machine

/-! ### The entry a selection picks (R115, R116) -/

theorem State.candidateClass_eq_some_iff {s : State} {i n : Nat} :
    s.candidateClass i = some n ↔ ∃ x, s.entryAt i = some x ∧ x.phase = .queued ∧ s.competesWith x = n := by
  have hclass : ∀ x, s.competesWith x = s.effectiveClass x := fun _ => rfl
  unfold State.candidateClass
  cases hx : s.entryAt i with
  | none => simp
  | some x => simp [Exchange.isQueued, hclass]

/-- An entry is picked when no candidate beats its class and none nearer the head equals it (R116). -/
theorem State.pick_eq_some {s : State} {i c : Nat} {older younger : List Nat} (horder : s.order = older ++ i :: younger)
    (hi : s.candidateClass i = some c) (holder : ∀ j ∈ older, ∀ n, s.candidateClass j = some n → n < c)
    (hyounger : ∀ j ∈ younger, ∀ n, s.candidateClass j = some n → n ≤ c) : s.pick = some i := by
  have hle : ∀ n ∈ s.order.filterMap s.candidateClass, n ≤ c := fun n hn => by
    obtain ⟨j, hj, hjn⟩ := List.mem_filterMap.1 hn
    rw [horder, List.mem_append, List.mem_cons] at hj
    rcases hj with hj | rfl | hj
    · exact (holder j hj n hjn).le
    · exact (Option.some.inj (hjn.symm.trans hi)).le
    · exact hyounger j hj n hjn
  have hmem : c ∈ s.order.filterMap s.candidateClass := List.mem_filterMap.2 ⟨i, by simp [horder], hi⟩
  have hbest : (s.order.filterMap s.candidateClass).foldl max 0 = c := by
    refine Nat.le_antisymm ?_ (le_foldl_max_of_mem hmem 0)
    rcases List.mem_cons.1 (foldl_max_mem (s.order.filterMap s.candidateClass) 0) with h0 | hin
    · exact h0.le.trans c.zero_le
    · exact hle _ hin
  rw [State.pick, hbest, List.find?_eq_some_iff_append]
  refine ⟨beq_iff_eq.2 hi, older, younger, horder, fun j hj => ?_⟩
  have hne : s.candidateClass j ≠ some c := fun hc => Nat.lt_irrefl c (holder j hj c hc)
  simpa using hne

/-- A selection with nothing in the D slot (R115). -/
theorem State.exec_selection {s : State} (hs : s.d.slot = none) : exec .selection s = .next s.select := by
  have htake : s.dTakeNow = s := s.takeStored_of_nothingToTake .d (.inr (.inl hs))
  simp only [exec, execSelection, htake]

/-- Settles O33: the entry described is the one picked (`pick_eq_some`), and a failing condition leaves none to send. -/
theorem selectionPicksTheHighestClassThenTheOldest : Obligations.SelectionPicksTheHighestClassThenTheOldest := by
  intro s hs
  rw [State.exec_selection hs, State.select]
  constructor
  · intro i x older younger hr hm hl horder hx hp holder hyounger addr frame
    have hpick : s.pick = some i := by
      refine State.pick_eq_some horder (State.candidateClass_eq_some_iff.2 ⟨x, hx, hp, rfl⟩) (fun j hj n hn => ?_)
        fun j hj n hn => ?_
      all_goals obtain ⟨y, hy, hq, rfl⟩ := State.candidateClass_eq_some_iff.1 hn
      · exact holder j y hj hy hq
      · exact hyounger j y hj hy hq
    simp only [if_pos (s.maySelect_iff.2 ⟨hr, hm, hl⟩), hpick, hx]
    rfl
  · intro hfails
    by_cases hmay : s.maySelect = true
    · obtain ⟨-, hm, hl⟩ := s.maySelect_iff.1 hmay
      have hnone : s.pick = none := by
        refine Option.not_isSome_iff_eq_none.1 fun hsome => ?_
        obtain ⟨i, hi, x, hx, hq⟩ := s.pick_isSome_iff.1 hsome
        rcases hfails with hmode | hline | hnoQueued
        · exact hmode hm
        · exact hline hl
        · exact hnoQueued i x hi hx hq
      simp only [if_pos hmay, hnone]
    · rw [if_neg hmay]

end Sys2Proof.Machine
end

section
/-! Reply timeouts (O38): what one counts, and what it leaves of the exchange on the line. -/

namespace Sys2Proof.Machine

/-! ### A timeout on the ladder (R127, R136, R141) -/

theorem State.level_countStation (s : State) (c : StationCounter) (a : Nat) :
    ((s.countStation c a).stationAt a).level = (s.stationAt a).level := by
  rcases s.stationAt_updateStation_or a a fun r => { r with counters := r.counters.bump c } with he | ⟨-, -, he⟩ <;>
    rw [State.countStation, he]

/-- Counting an event and then setting the ladder level is one change of the record. -/
theorem State.setLevel_countStation (s : State) {a : Nat} (ha : isStation a = true) (c : StationCounter) (level : Nat) :
    (s.countStation c a).setLevel a level = s.withLevel a level ((s.stationAt a).counters.bump c) := by
  rw [State.setLevel, if_pos ha, s.level_countStation, State.countStation, State.updateStation_updateStation,
    State.updateStation_eq _ _ _ ha]
  rfl

/-- The ladder level that an advance leads to (R136). -/
def nextLevel (level : Nat) : Nat := if level < 8 then level + 1 else 8

theorem State.advanceLevel_countStation (s : State) {a : Nat} (ha : isStation a = true) (c : StationCounter) :
    (s.countStation c a).advanceLevel a =
      s.withLevel a (nextLevel (s.stationAt a).level) ((s.stationAt a).counters.bump c) := by
  rw [State.advanceLevel, s.level_countStation, State.setLevel_countStation s ha, nextLevel]

@[simp] theorem State.withLevel_stations (s : State) (a level : Nat) (c : StationCounters) :
    (s.withLevel a level c).stations =
      s.stations.set (a - 1) { s.stationAt a with level := level, counters := c } := by
  unfold State.withLevel
  exact apply_ite State.stations _ _ _ |>.trans (ite_self _)

@[simp] theorem State.withLevel_d (s : State) (a level : Nat) (c : StationCounters) : (s.withLevel a level c).d = s.d := by
  unfold State.withLevel
  exact apply_ite State.d _ _ _ |>.trans (ite_self _)

@[simp] theorem State.withLevel_mode (s : State) (a level : Nat) (c : StationCounters) :
    (s.withLevel a level c).mode = s.mode := by
  unfold State.withLevel
  exact apply_ite State.mode _ _ _ |>.trans (ite_self _)

/-- After an advance the record stands at 8 exactly when 8 is the level the advance leads to. An address that the table does not reach
reads level 1 before and after. -/
theorem State.level_withLevel_nextLevel (s : State) {a : Nat} (ha : isStation a = true) (c : StationCounters) :
    ((s.withLevel a (nextLevel (s.stationAt a).level) c).stationAt a).level = 8 ↔ nextLevel (s.stationAt a).level = 8 := by
  by_cases hlt : a - 1 < s.stations.length
  · simp [State.stationAt, ha, List.getD_eq_getElem?_getD, hlt]
  · simp [State.stationAt, ha, List.getD_eq_getElem?_getD, hlt, nextLevel, StationRecord.afterReset]

/-! ### A timeout of the entry on the line (R126, R128, R129) -/

/-- A reply timer with nothing in the D slot runs out (R126). -/
theorem State.exec_replyTimeout {s : State} (hr : s.pins.resetN = true) (hs : s.d.slot = none) :
    exec .replyTimeout s = .next s.replyExpiry := by
  have htake : s.dTakeNow = s := s.takeStored_of_nothingToTake .d (.inr (.inl hs))
  simp only [exec, execReplyTimeout, hr, if_true, htake]

/-- In COLLECT the expiry waits for the frame's end (R126). -/
theorem State.replyExpiry_of_collect {s : State} {i addr τ : Nat} (hl : s.line = .awaiting i addr τ)
    (ha : s.d.assembler ≠ .hunt) : s.replyExpiry = s.withLine (.awaiting i addr 0) := by
  cases hc : s.d.assembler with
  | hunt => exact absurd hc ha
  | collect chars error gap => simp only [State.replyExpiry, hl, hc]; rfl

theorem State.replyExpiry_of_hunt {s : State} {i addr τ : Nat} {x : Exchange} (hl : s.line = .awaiting i addr τ)
    (hx : s.entryAt i = some x) (ha : s.d.assembler = .hunt) : s.replyExpiry = s.timeoutEffect i x addr := by
  simp only [State.replyExpiry, hl, ha, hx]

/-- The line falls IDLE, and D settings that waited for that take effect (R36, R114). -/
theorem State.settledOn_lineIdle (s : State) : SettledOn (s.withLine .idle) s.lineIdle :=
  (s.withLine .idle).settledOn_settleDSettings

/-- An ON_LINE entry at its attempt limit ends SILENT (R128). -/
theorem State.settleSilent_eq (s : State) (i : Nat) {x : Exchange} (ha : isStation x.key.addr = true) :
    s.settleSilent i x = (s.silenceCounted x.key.addr).settledWith i x ⟨.silent, none, []⟩ := by
  have hnothing : (x.discovery && silentOutcome.kind.teaches) = false := Bool.and_false _
  rw [State.settleSilent, State.countStation_eq _ _ _ ha, State.settle_eq _ _ ha hnothing]
  rfl

/-- Settles O38: the timeout is counted (`advanceLevel_countStation`), and the entry acted on in the cases of R127 to R129. -/
theorem aReplyTimeoutRetriesOrEndsSilent : Obligations.AReplyTimeoutRetriesOrEndsSilent := by
  intro s i addr τ x hr hs hl hx ha a level limit counted
  have hcounted : (s.countStation .timeouts x.key.addr).advanceLevel x.key.addr = counted :=
    s.advanceLevel_countStation ha .timeouts
  have hlimit : counted.attemptLimit x.key.addr = limit := by
    have htiming : counted.timing = s.timing := s.withLevel_timing _ _ _
    rw [State.attemptLimit, htiming]
    exact if_congr (s.level_withLevel_nextLevel ha _) rfl rfl
  have hmode : counted.mode = s.mode := s.withLevel_mode _ _ _
  rw [State.exec_replyTimeout hr hs]
  refine ⟨fun hcollect => by rw [State.replyExpiry_of_collect hl hcollect], fun hhunt => ⟨_, rfl, ?_⟩⟩
  rw [State.replyExpiry_of_hunt hl hx hhunt, State.timeoutEffect, hcounted]
  have honLine : x.phase = .onLine → x.phase ≠ .withdrawn := fun hp => by rw [hp]; nofun
  refine ⟨fun hp => ?_, fun hp hlt hrun => ?_, fun hp hlt hrun => ?_, fun hp hle => ?_⟩
  · rw [if_pos hp, State.freeEntry_eq]
    exact State.settledOn_lineIdle _
  · have hd : counted.d = s.d := s.withLevel_d _ _ _
    rw [if_neg (honLine hp), State.afterTimeout, hlimit, if_pos hlt]
    simp only [hmode, hrun]
    rw [State.sendAttempt, ← hd, ← hp]
    rfl
  · rw [if_neg (honLine hp), State.afterTimeout, hlimit, if_pos hlt]
    cases hm : s.mode with
    | run => exact absurd hm hrun
    | paused n =>
      simp only [hmode, hm]
      exact State.settledOn_lineIdle _
  · rw [if_neg (honLine hp), State.afterTimeout, hlimit, if_neg (Nat.not_lt.2 hle), State.settleSilent_eq _ _ ha]
    exact State.settledOn_lineIdle _

end Sys2Proof.Machine
end

section
/-! PAUSE (O49): the mode it sets, and the frame that it takes back. -/

namespace Sys2Proof.Machine

/-! ### A pause and the request that asks for it (R131, R159, R170) -/

theorem State.pauseWithdraw_withTaking (q : PortState) (h : Handler) (m : Option StoredAnswer) (s : State) :
    (s.withTaking q h m).pauseWithdraw = s.pauseWithdraw.withTaking q h m := by
  have hline : (s.withTaking q h m).line = s.line := rfl
  have hentry : ∀ i, (s.withTaking q h m).entryAt i = s.entryAt i := fun _ => rfl
  have hidle : ∀ t : State, (t.withTaking q h m).lineIdle = t.lineIdle.withTaking q h m := fun t =>
    State.settleDSettings_withTaking q h m (t.withLine .idle)
  cases hl : s.line with
  | idle => simp only [State.pauseWithdraw, hline, hl]
  | awaiting i a t => simp only [State.pauseWithdraw, hline, hl]
  | sending i a =>
    cases hx : s.entryAt i with
    | none => simp only [State.pauseWithdraw, hline, hentry, hl, hx]
    | some x =>
      have hset : ∀ y, (s.withTaking q h m).withdrawFrame.setEntry i y =
          (s.withdrawFrame.setEntry i y).withTaking q h m := fun y => by
        unfold State.withdrawFrame
        rw [apply_ite (State.setEntry i y), apply_ite (State.setEntry i y), apply_ite (State.withTaking q h m)]
        rfl
      simp only [State.pauseWithdraw, hline, hentry, hl, hx, hset, hidle]
      rw [apply_ite (State.withTaking q h m)]
      rfl

theorem State.pauseFor_withTaking (d : Nat) (q : PortState) (h : Handler) (m : Option StoredAnswer) (s : State) :
    (s.withTaking q h m).pauseFor d = (s.pauseFor d).withTaking q h m := by
  unfold State.pauseFor
  rw [apply_ite (State.withTaking q h m), ← State.pauseWithdraw_withTaking]
  rfl

theorem State.pauseFor_u (d : Nat) (s : State) : (s.pauseFor d).u = s.u := by
  unfold State.pauseFor
  split
  · rfl
  · simp

/-- A PAUSE is carried out before its DONE (R161, R170). -/
theorem State.exec_pause {s : State} {f : FrameRecord} (h : s.CanManage f .set 0x0020) (hlen : f.payload.length = 2) :
    exec .pause s = .next ((s.pauseFor (wordAt f.payload 0)).managed f .done [] .plain) := by
  have hexec : exec .pause s = .next ((s.beginTaking f).decidePause f) := State.exec_of_canManage h (.inr rfl)
  rw [hexec, State.decidePause, State.judgeSet_accepted hlen rfl, s.forgetMemory_beginTaking f,
    State.pauseFor_withTaking, State.answerManagement_withTaking (s.pauseFor_u _)]

/-! ### The frame that waits on D (R133) -/

/-- With no frame of an ON_LINE entry waiting on D there is none to take back. -/
theorem State.pauseWithdraw_eq_self {s : State} (hno : ∀ i x,
    ¬ ((∃ a, s.line = .sending i a) ∧ s.entryAt i = some x ∧ x.phase = .onLine ∧ s.d.tx.isWaiting = true)) :
    s.pauseWithdraw = s := by
  unfold State.pauseWithdraw
  split
  · next i a hl =>
    split
    · next x hx =>
      refine if_neg fun hw => ?_
      rw [Bool.and_eq_true, beq_iff_eq] at hw
      obtain ⟨hwaits, hp⟩ := hw
      exact hno i x ⟨⟨a, hl⟩, hx, hp, hwaits⟩
    · rfl
  · rfl
  · rfl

/-- The frame of an ON_LINE entry that waits on D is taken back, and its attempt with it. -/
theorem State.pauseWithdraw_eq {s : State} {i a : Nat} {x : Exchange} (hl : s.line = .sending i a)
    (hx : s.entryAt i = some x) (hp : x.phase = .onLine) (hw : s.d.tx.isWaiting = true) :
    s.pauseWithdraw = State.settleDSettings
      { s.withEntry i (some { x with phase := .queued, attempts := x.attempts - 1 }) with
        d := { s.d with tx := .idle }, line := .idle } := by
  have honLine : (x.phase == .onLine) = true := beq_iff_eq.2 hp
  simp only [State.pauseWithdraw, hl, hx, hw, honLine, Bool.and_self, if_true, State.withdrawFrame]
  rfl

/-- Settles O49: the PAUSE is accepted (`exec_pause`), and takes back the frame that waits, if one does (`pauseWithdraw_eq`). -/
theorem aPauseWithdrawsAWaitingFrame : Obligations.APauseWithdrawsAWaitingFrame := by
  intro s f h hlen d paused withdraws
  have hexec : exec .pause s = .next ((s.pauseFor d).managed f .done [] .plain) := State.exec_pause h hlen
  have hpaused : d ≠ 0 → s.pauseFor d = paused.pauseWithdraw := fun hd => if_neg hd
  rw [hexec]
  refine ⟨fun hd => ?_, fun hd hno => ?_, fun i x hd ⟨⟨a, hl⟩, hx, hp, hw⟩ => ⟨_, rfl, ?_⟩⟩
  · rw [State.pauseFor, if_pos hd]
  · rw [hpaused hd, State.pauseWithdraw_eq_self (s := paused) hno]
  · rw [hpaused hd, State.pauseWithdraw_eq (s := paused) hl hx hp hw]
    exact State.settledOn_settleDSettings _

end Sys2Proof.Machine
end

section
/-! The ladder's step (O41), and TIMING, which sets its period (O44). -/

namespace Sys2Proof.Machine

/-! ### A ladder level set (R136) -/

theorem State.stationAt_setLevel_self {s : State} {a : Nat} (hs : s.stations.length = Config.stationCount)
    (ha : isStation a = true) (level : Nat) :
    (s.setLevel a level).stationAt a = { s.stationAt a with level := level } := by
  have hset := s.stationAt_updateStation a a (fun r => { r with level := level }) hs ha ha
  rw [if_pos rfl] at hset
  rw [State.setLevel, if_pos ha]
  dsimp only
  split <;> exact hset

theorem State.factors_setLevel (s : State) {a : Nat} (ha : isStation a = true) (level : Nat) :
    (s.setLevel a level).factors =
      if (s.stationAt a).level < 8 ∧ level = 8 then (s.raise .stationQuiet).factors else s.factors := by
  rw [State.setLevel, if_pos ha]
  dsimp only
  split <;> simp [State.raise]

theorem State.setLevel_frame (s : State) (a level : Nat) :
    s.setLevel a level =
      { s with stations := (s.setLevel a level).stations, factors := (s.setLevel a level).factors } := by
  unfold State.setLevel State.updateStation
  split
  · dsimp only
    split <;> rfl
  · rfl

@[simp] theorem State.stations_length_setLevel (s : State) (a level : Nat) :
    (s.setLevel a level).stations.length = s.stations.length := by
  unfold State.setLevel
  split
  · dsimp only
    split <;> exact s.stations_length_updateStation a _
  · rfl

/-- A factor raised twice is raised once (R149). -/
theorem State.factors_raise_of_raised {s t : State} {f : Factor} (h : t.factors = (s.raise f).factors) :
    (t.raise f).factors = (s.raise f).factors := by
  show t.factors.modify _ _ = _
  rw [h]
  simp [State.raise, List.modify_modify_eq, Function.comp_def]

theorem State.factors_raise_congr {s t : State} (f : Factor) (h : t.factors = s.factors) :
    (t.raise f).factors = (s.raise f).factors := by
  simp only [State.raise, h]

/-! ### One record's share of a step expiry (R138) -/

/-- A step expiry advances this record. -/
def StationRecord.Climbs (r : StationRecord) : Prop := r.side = .downstream ∧ r.level < 8

/-- A step expiry takes this record to level 8. -/
def StationRecord.FallsQuiet (r : StationRecord) : Prop := r.side = .downstream ∧ r.level = 7

theorem StationRecord.FallsQuiet.climbs {r : StationRecord} (h : r.FallsQuiet) : r.Climbs :=
  ⟨h.1, by rw [h.2]; decide⟩

theorem State.stepStation_of_climbs {s : State} {a : Nat} (h : (s.stationAt a).Climbs) :
    s.stepStation a = s.setLevel a ((s.stationAt a).level + 1) := by
  have hadvance : s.stepStation a = s.advanceLevel a := if_pos h
  rw [hadvance, State.advanceLevel, if_pos h.2]

theorem State.stepStation_of_not_climbs {s : State} {a : Nat} (h : ¬ (s.stationAt a).Climbs) : s.stepStation a = s :=
  if_neg h

theorem State.factors_stepStation_of_fallsQuiet {s : State} {a : Nat} (ha : isStation a = true)
    (h : (s.stationAt a).FallsQuiet) : (s.stepStation a).factors = (s.raise .stationQuiet).factors := by
  have hquiet : (s.stationAt a).level < 8 ∧ (s.stationAt a).level + 1 = 8 := by rw [h.2]; decide
  rw [State.stepStation_of_climbs h.climbs, s.factors_setLevel ha, if_pos hquiet]

theorem State.factors_stepStation_of_not_fallsQuiet {s : State} {a : Nat} (ha : isStation a = true)
    (h : ¬ (s.stationAt a).FallsQuiet) : (s.stepStation a).factors = s.factors := by
  by_cases hclimbs : (s.stationAt a).Climbs
  · have hquiet : ¬ ((s.stationAt a).level < 8 ∧ (s.stationAt a).level + 1 = 8) := fun hq =>
      h ⟨hclimbs.1, Nat.succ.inj hq.2⟩
    rw [State.stepStation_of_climbs hclimbs, s.factors_setLevel ha, if_neg hquiet]
  · rw [State.stepStation_of_not_climbs hclimbs]

/-! ### The records up to an address, one after another (R138) -/

/-- Some record up to address n is taken to level 8 by a step expiry. -/
def State.QuietThrough (s : State) (n : Nat) : Prop :=
  ∃ a, isStation a = true ∧ a ≤ n ∧ (s.stationAt a).FallsQuiet

/-- State t is s after the records up to address n had their share of a step expiry. -/
structure State.SteppedThrough (n : Nat) (s t : State) : Prop where
  frame : t = { s with stations := t.stations, factors := t.factors }
  sized : t.stations.length = Config.stationCount
  climbed : ∀ a, isStation a = true → a ≤ n → (s.stationAt a).Climbs →
    t.stationAt a = { s.stationAt a with level := (s.stationAt a).level + 1 }
  stayed : ∀ a, n < a ∨ ¬ (s.stationAt a).Climbs → t.stationAt a = s.stationAt a
  quiet : s.QuietThrough n → t.factors = (s.raise .stationQuiet).factors
  silent : ¬ s.QuietThrough n → t.factors = s.factors

theorem State.quietThrough_succ_iff (s : State) {n : Nat} (ha : isStation (n + 1) = true) :
    s.QuietThrough (n + 1) ↔ s.QuietThrough n ∨ (s.stationAt (n + 1)).FallsQuiet := by
  constructor
  · rintro ⟨a, hst, hle, hq⟩
    rcases Nat.le_succ_iff.1 hle with h | rfl
    · exact .inl ⟨a, hst, h, hq⟩
    · exact .inr hq
  · rintro (⟨a, hst, hle, hq⟩ | hq)
    · exact ⟨a, hst, Nat.le_succ_of_le hle, hq⟩
    · exact ⟨n + 1, ha, Nat.le_refl _, hq⟩

namespace State.SteppedThrough

variable {s t : State} {n : Nat}

theorem zero (hs : s.stations.length = Config.stationCount) : SteppedThrough 0 s s where
  frame := rfl
  sized := hs
  climbed a ha hle _ := by
    have hpos : 1 ≤ a := ((isStation_iff a).1 ha).1
    omega
  stayed _ _ := rfl
  quiet := by
    rintro ⟨a, ha, hle, -⟩
    have hpos : 1 ≤ a := ((isStation_iff a).1 ha).1
    omega
  silent _ := rfl

/-- The factors after the next record's share. -/
theorem factors_step (h : SteppedThrough n s t) (ha : isStation (n + 1) = true) :
    (s.QuietThrough (n + 1) → (t.stepStation (n + 1)).factors = (s.raise .stationQuiet).factors) ∧
      (¬ s.QuietThrough (n + 1) → (t.stepStation (n + 1)).factors = s.factors) := by
  have hsame : t.stationAt (n + 1) = s.stationAt (n + 1) := h.stayed _ (.inl (Nat.lt_succ_self n))
  rw [s.quietThrough_succ_iff ha, ← hsame]
  by_cases hq : (t.stationAt (n + 1)).FallsQuiet
  · rw [factors_stepStation_of_fallsQuiet ha hq]
    refine ⟨fun _ => ?_, fun hnot => absurd (.inr hq) hnot⟩
    by_cases hbefore : s.QuietThrough n
    · exact factors_raise_of_raised (h.quiet hbefore)
    · exact factors_raise_congr _ (h.silent hbefore)
  · rw [factors_stepStation_of_not_fallsQuiet ha hq]
    exact ⟨fun hor => h.quiet (hor.resolve_right hq), fun hnot => h.silent fun hbefore => hnot (.inl hbefore)⟩

/-- The next record's share. -/
theorem step (h : SteppedThrough n s t) (ha : isStation (n + 1) = true) :
    SteppedThrough (n + 1) s (t.stepStation (n + 1)) := by
  have hsame : t.stationAt (n + 1) = s.stationAt (n + 1) := h.stayed _ (.inl (Nat.lt_succ_self n))
  obtain ⟨hquiet, hsilent⟩ := h.factors_step ha
  by_cases hclimbs : (t.stationAt (n + 1)).Climbs
  · rw [stepStation_of_climbs hclimbs] at hquiet hsilent ⊢
    have hother : ∀ a, a ≠ n + 1 → (t.setLevel (n + 1) ((t.stationAt (n + 1)).level + 1)).stationAt a = t.stationAt a :=
      fun a hne => t.stationAt_setLevel_of_ne _ hne
    refine ⟨?_, by rw [stations_length_setLevel, h.sized], fun a hst hle hc => ?_, fun a hor => ?_, hquiet, hsilent⟩
    · rw [setLevel_frame, h.frame]
    · rcases Nat.le_succ_iff.1 hle with hlt | rfl
      · rw [hother a (by omega), h.climbed a hst hlt hc]
      · rw [stationAt_setLevel_self h.sized ha, hsame]
    · have hne : a ≠ n + 1 := by
        rintro rfl
        exact hor.elim (Nat.lt_irrefl _) fun hno => hno (hsame ▸ hclimbs)
      rw [hother a hne]
      exact h.stayed a (hor.imp_left Nat.lt_of_succ_lt)
  · rw [stepStation_of_not_climbs hclimbs] at hquiet hsilent ⊢
    refine ⟨h.frame, h.sized, fun a hst hle hc => ?_, fun a hor => h.stayed a (hor.imp_left Nat.lt_of_succ_lt), hquiet,
      hsilent⟩
    rcases Nat.le_succ_iff.1 hle with hlt | rfl
    · exact h.climbed a hst hlt hc
    · exact absurd (hsame ▸ hc) hclimbs

theorem foldl_range (hs : s.stations.length = Config.stationCount) :
    ∀ n, n ≤ Config.stationCount → SteppedThrough n s ((List.range n).foldl (fun t k => t.stepStation (k + 1)) s)
  | 0, _ => zero hs
  | n + 1, hle => by
    rw [List.range_succ, List.foldl_append]
    exact (foldl_range hs n (Nat.le_of_succ_le hle)).step ((isStation_iff _).2 ⟨Nat.succ_pos n, hle⟩)

end State.SteppedThrough

/-- A step expiry is every record's share, and the timer set to the step's period (R138). -/
theorem State.exec_ladderStep {s : State} {n : Nat} (hs : s.stations.length = Config.stationCount)
    (hr : s.pins.resetN = true) (ht : s.stepTimer = some n) :
    ∃ t : State, SteppedThrough Config.stationCount s t ∧
      exec .ladderStep s = .next { t with stepTimer := s.timing.ladderStep.period } := by
  have hstepped := SteppedThrough.foldl_range hs Config.stationCount (Nat.le_refl _)
  refine ⟨_, hstepped, ?_⟩
  have htiming := congrArg State.timing hstepped.frame
  have hexec : exec .ladderStep s = .next s.ladderExpiry := by
    simp only [exec, execLadderStep, hr, ht, Option.isSome_some, Bool.and_self, if_true]
  rw [hexec, State.ladderExpiry, htiming]

/-- Settles O41: the records have their share one after another (`SteppedThrough.foldl_range`), and the timer starts again. -/
theorem theLadderStepAdvancesDownstreamRecords : Obligations.TheLadderStepAdvancesDownstreamRecords := by
  intro s n ⟨_, hs, _⟩ hr ht
  obtain ⟨t, hstepped, hexec⟩ := State.exec_ladderStep hs hr ht
  have hrange : ∀ {a}, isStation a = true → a ≤ Config.stationCount := fun ha => ((isStation_iff _).1 ha).2
  refine ⟨_, hexec, ?_, fun a ha hside hlevel => hstepped.climbed a ha (hrange ha) ⟨hside, hlevel⟩,
    fun a _ hno => hstepped.stayed a (.inr hno), fun ⟨a, ha, hq⟩ => hstepped.quiet ⟨a, ha, hrange ha, hq⟩,
    fun hno => hstepped.silent fun ⟨a, ha, _, hside, hlevel⟩ => hno a ha hside hlevel, ?_, ?_, ?_⟩
  · rw [hstepped.frame]
  all_goals exact fun hstep => by rw [hstep]; rfl

/-! ### TIMING (R139, R168) -/

/-- Values in their ranges are allowed, field by field (R161). -/
theorem firstBad_withinRanges_of_allInside {values : List Nat} {ranges : List (Nat × Nat)} (h : AllInside values ranges) :
    firstBad (withinRanges values ranges) = none := by
  rw [firstBad, Option.map_eq_none_iff, List.findIdx?_eq_none_iff]
  intro b hb
  obtain ⟨j, hj, rfl⟩ := List.getElem_of_mem hb
  have hlt : j < values.length ∧ j < ranges.length := by simpa [withinRanges] using hj
  have hin := h j _ _ (List.getElem?_eq_getElem hlt.1) (List.getElem?_eq_getElem hlt.2)
  simpa only [withinRanges, List.getElem_zipWith, Bool.not_eq_false', decide_eq_true_eq] using hin

@[simp] theorem LadderStep.ofCode_code (l : LadderStep) : LadderStep.ofCode l.code = l := by cases l <;> rfl

theorem LadderStep.code_ofCode {code : Nat} (h : code ≤ 3) : (LadderStep.ofCode code).code = code := by
  interval_cases code <;> rfl

/-- A TIMING whose step is in range changes the step unless it carries the code of the step that is set. -/
theorem LadderStep.ofCode_eq_iff {code : Nat} (h : code ≤ 3) (l : LadderStep) : LadderStep.ofCode code = l ↔ code = l.code :=
  ⟨fun he => he ▸ (LadderStep.code_ofCode h).symm, fun he => he ▸ l.ofCode_code⟩

/-- The step, the eighth value, is a code of R137. -/
theorem ladderStep_le_of_allInside {payload : List Byte} (hlen : payload.length = 8)
    (h : AllInside (byteValues payload) timingRanges) : byteAt payload 7 ≤ 3 := by
  have hvalue : (byteValues payload)[7]? = some (byteAt payload 7) := by
    rw [byteValues_eq hlen]
    rfl
  exact (h 7 _ (0, 3) hvalue rfl).2

/-- A TIMING whose values are allowed is carried out before its DONE (R161, R168). -/
theorem State.exec_timing_accepted {s : State} {f : FrameRecord} (h : s.CanManage f .set 0x0012)
    (hlen : f.payload.length = 8) (hin : AllInside (byteValues f.payload) timingRanges) :
    exec .timing s = .next ((s.writeTiming f.payload).managed f .done [] .plain) := by
  have hexec : exec .timing s = .next ((s.beginTaking f).decideTiming f) := State.exec_of_canManage h (.inr rfl)
  have hfields : firstBad (timingFields f.payload) = none := by
    rw [timingFields_eq hlen, firstBad_withinRanges_of_allInside hin]
  rw [hexec, State.decideTiming, State.judgeSet_accepted hlen hfields]
  rfl

theorem State.writeTiming_ladderStep (s : State) (payload : List Byte) :
    (s.writeTiming payload).timing.ladderStep = .ofCode (byteAt payload 7) := rfl

/-- The step timer keeps its time when the step stays as it is (R139). -/
theorem State.stepTimer_writeTiming_of_same {s : State} {payload : List Byte}
    (h : LadderStep.ofCode (byteAt payload 7) = s.timing.ladderStep) : (s.writeTiming payload).stepTimer = s.stepTimer :=
  if_pos h

/-- A changed step starts its timer for the whole new period, and OFF stops it (R139). -/
theorem State.stepTimer_writeTiming_of_changed {s : State} {payload : List Byte}
    (h : LadderStep.ofCode (byteAt payload 7) ≠ s.timing.ladderStep) :
    (s.writeTiming payload).stepTimer = (LadderStep.ofCode (byteAt payload 7)).period :=
  if_neg h

/-- Settles O44: the SET is accepted (`exec_timing_accepted`), and its step is compared with the one that is set by their codes
(`LadderStep.ofCode_eq_iff`). -/
theorem timingIsWrittenWhole : Obligations.TimingIsWrittenWhole := by
  intro s f h hlen hin stepIs
  have hcode : byteAt f.payload 7 ≤ 3 := ladderStep_le_of_allInside hlen hin
  have hstep : ∀ l, LadderStep.ofCode (byteAt f.payload 7) = l ↔ stepIs l := LadderStep.ofCode_eq_iff hcode
  refine ⟨s.writeTiming f.payload, State.exec_timing_accepted h hlen hin, rfl, rfl, ?_, fun hsame => ?_, fun hchanged => ?_⟩
  · rw [State.writeTiming_ladderStep, LadderStep.code_ofCode hcode]
  · exact State.stepTimer_writeTiming_of_same ((hstep _).2 hsame)
  · have hperiod : ∀ l, stepIs l → (s.writeTiming f.payload).stepTimer = l.period := fun l hl => by
      rw [State.stepTimer_writeTiming_of_changed fun he => hchanged ((hstep _).1 he), (hstep l).2 hl]
    exact ⟨hperiod .off, hperiod .ms250, hperiod .s1, hperiod .s4⟩

end Sys2Proof.Machine
end

section
/-! The event factors: the summary and a raising (O9), FACTOR_LEVELS (O47) and FACTOR_ACK (O48). -/

namespace Sys2Proof.Machine

/-! ### The attention summary (R150) -/

/-- What a factor gives to the summary: its level while it is pending (R150). -/
def FactorState.contribution (x : FactorState) : Nat := if x.pending then x.level else 0

theorem FactorState.contribution_of_pending {x : FactorState} (h : x.pending = true) : x.contribution = x.level :=
  if_pos h

theorem FactorState.contribution_le_level (x : FactorState) : x.contribution ≤ x.level := by
  unfold FactorState.contribution
  split
  · exact Nat.le_refl _
  · exact Nat.zero_le _

theorem FactorState.pending_of_contribution_ne_zero {x : FactorState} (h : x.contribution ≠ 0) : x.pending = true :=
  of_not_not fun hno => h (if_neg hno)

theorem State.summaryLevel_eq (s : State) : s.summaryLevel = (s.factors.map (·.contribution)).foldl max 0 := rfl

theorem State.contribution_le_summaryLevel {s : State} {x : FactorState} (hx : x ∈ s.factors) :
    x.contribution ≤ s.summaryLevel :=
  le_foldl_max_of_mem (List.mem_map_of_mem hx) 0

/-- The summary is 0 or what one of the factors gives. -/
theorem State.summaryLevel_cases (s : State) :
    s.summaryLevel = 0 ∨ ∃ x ∈ s.factors, x.contribution = s.summaryLevel := by
  rw [s.summaryLevel_eq]
  exact (List.mem_cons.1 (foldl_max_mem _ 0)).imp_right List.mem_map.1

/-- Levels in range fit the two bits of an ATTN field (R2, R148). -/
theorem State.summary_toNat {s : State} (h : s.FactorLevelsInRange) : s.summary.toNat = s.summaryLevel := by
  have hle : s.summaryLevel ≤ 3 := by
    rcases s.summaryLevel_cases with hzero | ⟨x, hx, hgives⟩
    · omega
    · exact hgives ▸ x.contribution_le_level.trans (h x hx)
  rw [State.summary, BitVec.toNat_ofNat, Nat.mod_eq_of_lt (by omega)]

/-- Settles O9: the summary is the largest of what the factors give, and a raising changes one place of the factors' list
(`factorAt_raise`). -/
theorem summaryIsTheHighestPendingLevel : Obligations.SummaryIsTheHighestPendingLevel := by
  refine ⟨fun s hlevels => ?_, fun s g hsized => ⟨rfl, ?_, fun k hk hne => ?_⟩⟩
  · rw [State.summary_toNat hlevels]
    refine ⟨fun x hx hp => FactorState.contribution_of_pending hp ▸ State.contribution_le_summaryLevel hx, ?_⟩
    by_cases hzero : s.summaryLevel = 0
    · exact .inl hzero
    · obtain ⟨x, hx, hgives⟩ := s.summaryLevel_cases.resolve_left hzero
      have hp : x.pending = true := FactorState.pending_of_contribution_ne_zero (hgives ▸ hzero)
      exact .inr ⟨x, hx, hp, (FactorState.contribution_of_pending hp).symm.trans hgives⟩
  · obtain ⟨-, -, hfactors⟩ := hsized
    have hcode : 1 ≤ g.code ∧ g.code - 1 < 11 := by cases g <;> decide
    rw [s.factorAt_raise g _ hcode.1, if_pos ⟨rfl, hfactors ▸ hcode.2⟩]
  · rw [s.factorAt_raise g k hk, if_neg fun h => hne h.1]

/-! ### Factors written in their places (R153, R154) -/

theorem State.factorAt_mapIdx (s : State) (g : Nat → FactorState → FactorState) {code : Nat}
    (hc : code - 1 < s.factors.length) :
    ({ s with factors := s.factors.mapIdx g } : State).factorAt code = g (code - 1) (s.factorAt code) := by
  simp [State.factorAt, List.getD_eq_getElem?_getD, hc]

theorem State.factorAt_writeLevels (s : State) (levels : List Byte) {code : Nat} (hc : code - 1 < s.factors.length) :
    (s.writeLevels levels).factorAt code = { s.factorAt code with level := byteAt levels (code - 1) } :=
  s.factorAt_mapIdx _ hc

theorem State.factorAt_acknowledge (s : State) (codes : List Byte) {code : Nat} (hpos : 1 ≤ code)
    (hc : code - 1 < s.factors.length) :
    (s.acknowledge codes).factorAt code =
      if code ∈ byteValues codes then { s.factorAt code with pending := false } else s.factorAt code := by
  have hlisted : (codes.any fun c => c.toNat == code - 1 + 1) = true ↔ code ∈ byteValues codes := by
    rw [Nat.sub_add_cancel hpos]
    simp [byteValues]
  rw [State.acknowledge, s.factorAt_mapIdx _ hc]
  exact if_congr hlisted rfl rfl

/-! ### SETs of bytes that all have one range (R153, R155, R161) -/

theorem withinRanges_replicate (payload : List Byte) (r : Nat × Nat) :
    withinRanges (byteValues payload) (List.replicate payload.length r) =
      payload.map fun b => decide (r.1 ≤ b.toNat ∧ b.toNat ≤ r.2) := by
  induction payload with
  | nil => rfl
  | cons b rest ih => exact congrArg (_ :: ·) ih

theorem allInside_replicate {payload : List Byte} {r : Nat × Nat} (h : ∀ b ∈ payload, r.1 ≤ b.toNat ∧ b.toNat ≤ r.2)
    (n : Nat) : AllInside (byteValues payload) (List.replicate n r) := by
  intro j v r' hv hr
  obtain ⟨b, hb, rfl⟩ := List.mem_map.1 (List.mem_of_getElem? hv)
  obtain rfl := List.eq_of_mem_replicate (List.mem_of_getElem? hr)
  exact h b hb

/-- The fields of a FACTOR_LEVELS SET are allowed as its levels lie in 0 to 3 (R153). -/
theorem factorLevelsFields_eq {payload : List Byte} (h : payload.length = 11) :
    (payload.map fun c => decide (c.toNat ≤ 3)) = withinRanges (byteValues payload) (List.replicate 11 (0, 3)) := by
  rw [← h, withinRanges_replicate]
  simp only [Nat.zero_le, true_and]

/-- A SET whose values all lie in their ranges has its effect, and then its DONE is formed (R161). -/
theorem State.accepted_of_allInside {s : State} {f : FrameRecord} {c : Instr} {len : Nat} {fields : List Byte → List Bool}
    {m : AnswerMark} {effect : List Byte → State → State} {values : List Nat} {ranges : List (Nat × Nat)}
    (hexec : exec c s = .next ((s.beginTaking f).judgeSet len fields m effect f)) (hlen : f.payload.length = len)
    (hfields : fields f.payload = withinRanges values ranges) (hin : AllInside values ranges) :
    exec c s = .next ((effect f.payload (s.beginTaking f).forgetMemory).answerManagement f .done [] m) := by
  rw [hexec, State.judgeSet_accepted hlen (hfields ▸ firstBad_withinRanges_of_allInside hin)]

/-- Settles O47: the levels are judged as eleven values of one range, and go to the factors in their places
(`factorAt_writeLevels`). -/
theorem factorLevelsAreWrittenTogether : Obligations.FactorLevelsAreWrittenTogether := by
  intro s f h hlen ⟨_, _, hfactors⟩
  have hexec : exec .factorLevels s = .next ((s.beginTaking f).decideFactorLevels f) :=
    State.exec_of_canManage h (.inr rfl)
  have hfields := factorLevelsFields_eq hlen
  refine ⟨fun hlevels => ⟨s.writeLevels f.payload, ?_, rfl, fun c _ hle => ?_⟩,
    fun k => State.refused_of_firstOutside hexec hlen hfields⟩
  · have hin := allInside_replicate (r := (0, 3)) (fun b hb => ⟨Nat.zero_le _, hlevels b hb⟩) 11
    exact State.accepted_of_allInside hexec hlen hfields hin
  · exact s.factorAt_writeLevels f.payload (by omega)

/-- Settles O48: the codes are judged as values of one range, as many as there are, and a factor is cleared as its code is listed
(`factorAt_acknowledge`). -/
theorem listedFactorsAreAcknowledged : Obligations.ListedFactorsAreAcknowledged := by
  intro s f h _ ⟨_, _, hfactors⟩
  have hexec : exec .factorAck s = .next ((s.beginTaking f).decideFactorAck f) := State.exec_of_canManage h (.inr rfl)
  have hfields := (withinRanges_replicate f.payload (1, 11)).symm
  refine ⟨fun hcodes => ⟨s.acknowledge f.payload, ?_, rfl, fun c hpos hle => ?_⟩,
    fun k => State.refused_of_firstOutside hexec rfl hfields⟩
  · have hin := allInside_replicate (r := (1, 11)) hcodes f.payload.length
    exact State.accepted_of_allInside hexec rfl hfields hin
  · rw [s.factorAt_acknowledge f.payload hpos (by omega)]
    exact ⟨fun hlisted => if_pos hlisted, fun hnot => if_neg hnot⟩

end Sys2Proof.Machine
end

section
/-! What the Management Unit refuses before it reads a field (O42), POLICY (O45), and the read-and-clears with their memory (O52). -/

namespace Sys2Proof.Machine

/-! ### Requests refused for their object or their kind (R160, R161) -/

/-- A number outside the object map names no object (R160). -/
theorem Object.ofNumber_unknown {n : Nat}
    (h : ¬ (n ∈ [0x0000, 0x0001, 0x0002, 0x0003, 0x0010, 0x0011, 0x0012, 0x0013, 0x0020, 0x0021, 0x0022, 0x0023,
        0x0400, 0x0401] ∨ (0x0101 ≤ n ∧ n ≤ 0x017E) ∨ (0x0201 ≤ n ∧ n ≤ 0x027E) ∨ (0x0301 ≤ n ∧ n ≤ 0x037E) ∨
      (0x0500 ≤ n ∧ n ≤ 0x0507))) :
    Object.ofNumber n = .unknown := by
  simp only [not_or, List.mem_cons, List.not_mem_nil, or_false] at h
  simp only [Object.ofNumber, h, if_false]

theorem Object.ofNumber_countersReadClear {a : Nat} (ha : isStation a = true) :
    Object.ofNumber (0x0300 + a) = .countersReadClear a := by
  have hle := (isStation_iff a).1 ha
  unfold Object.ofNumber
  simp (disch := omega) only [if_neg, if_pos, Nat.add_sub_cancel_left]

/-- A request that no other step is for is decided by MANAGEMENT_REQUEST (R160, R178). -/
theorem State.exec_managementRequest {s : State} {f : FrameRecord} {kind : Kind} {n : Nat} (h : s.CanManage f kind n)
    (hk : kind = .ask ∨ kind = .set) (ht : managementTaking kind (.ofNumber n) = .managementRequest) :
    exec .managementRequest s = .next ((s.beginTaking f).decideManagementRequest f) := by
  have he := State.exec_of_canManage h hk
  rwa [ht] at he

/-- A request for a number that names no object is refused UNKNOWN_OBJECT (R161, step 1). -/
theorem State.exec_unknownObject {s : State} {f : FrameRecord} {kind : Kind} {n : Nat} (h : s.CanManage f kind n)
    (hk : kind = .ask ∨ kind = .set) (hn : Object.ofNumber n = .unknown) :
    exec .managementRequest s = .next (s.refused f 1 0) := by
  have htaking : managementTaking kind .unknown = .managementRequest := by rcases hk with rfl | rfl <;> rfl
  rw [State.exec_managementRequest h hk (hn ▸ htaking)]
  obtain ⟨-, -, -, hobject⟩ := h
  simp only [State.decideManagementRequest, hobject, hn, if_true]
  rfl

/-- The object is one of the map and does not answer to the kind (R160). -/
def Object.WrongKind (o : Object) (kind : Kind) : Prop :=
  o ≠ .unknown ∧ managementTaking kind o = .managementRequest ∧ ¬ (kind = .ask ∧ o.answersAsk = true)

/-- A request of a kind that its object does not answer to is refused WRONG_KIND (R161, step 2). -/
theorem State.exec_wrongKind {s : State} {f : FrameRecord} {kind : Kind} {n : Nat} {o : Object} (h : s.CanManage f kind n)
    (hk : kind = .ask ∨ kind = .set) (hn : Object.ofNumber n = o) (ho : o.WrongKind kind) :
    exec .managementRequest s = .next (s.refused f 2 0) := by
  obtain ⟨hknown, htaking, hanswer⟩ := ho
  rw [State.exec_managementRequest h hk (hn ▸ htaking)]
  obtain ⟨-, -, hkind, hobject⟩ := h
  simp only [State.decideManagementRequest, hobject, hn, hkind, hknown, hanswer, if_false]
  rfl

/-- The objects that do not answer to ASK (R160). -/
theorem Object.wrongKind_ask {n : Nat} (h : n ∈ [0x0002, 0x0021, 0x0022, 0x0023]) :
    (Object.ofNumber n).WrongKind .ask := by
  simp only [List.mem_cons, List.not_mem_nil, or_false] at h
  rcases h with rfl | rfl | rfl | rfl <;> exact ⟨nofun, rfl, nofun⟩

/-- The objects that do not answer to SET (R160). -/
theorem Object.wrongKind_set {n : Nat}
    (h : n ∈ [0x0000, 0x0001, 0x0400, 0x0401] ∨ (0x0201 ≤ n ∧ n ≤ 0x027E) ∨ (0x0301 ≤ n ∧ n ≤ 0x037E) ∨
      (0x0500 ≤ n ∧ n ≤ 0x0507)) : (Object.ofNumber n).WrongKind .set := by
  rcases h with hsingle | hcounters | hreadClear | hexchange
  · simp only [List.mem_cons, List.not_mem_nil, or_false] at hsingle
    rcases hsingle with rfl | rfl | rfl | rfl <;> exact ⟨nofun, rfl, nofun⟩
  · obtain ⟨a, rfl⟩ := Nat.exists_eq_add_of_le (show 0x0200 ≤ n by omega)
    rw [Object.ofNumber_counters ((isStation_iff a).2 (by omega))]
    exact ⟨nofun, rfl, nofun⟩
  · obtain ⟨a, rfl⟩ := Nat.exists_eq_add_of_le (show 0x0300 ≤ n by omega)
    rw [Object.ofNumber_countersReadClear ((isStation_iff a).2 (by omega))]
    exact ⟨nofun, rfl, nofun⟩
  · obtain ⟨i, rfl⟩ := Nat.exists_eq_add_of_le (show 0x0500 ≤ n by omega)
    rw [Object.ofNumber_exchange (show i < 8 by omega)]
    exact ⟨nofun, rfl, nofun⟩

/-! ### SETs refused for their length, and the SELF record (R75, R161) -/

/-- A SET of another length than its object's is refused BAD_LENGTH, whatever its fields (R161, step 3). -/
theorem State.judgeSet_badLength (s : State) {f : FrameRecord} {len : Nat} (hlen : f.payload.length ≠ len)
    (fields : List Byte → List Bool) (m : AnswerMark) (effect : List Byte → State → State) :
    (s.beginTaking f).judgeSet len fields m effect f = s.refused f 3 0 := by
  simp only [State.judgeSet, hlen, ne_eq, not_false_eq_true, if_true]
  rfl

/-- The length of a STATION write is judged before the SELF record is told (R161, steps 3 and 4). -/
theorem State.decideStationWrite_badLength (s : State) {f : FrameRecord} (hlen : f.payload.length ≠ 4) :
    (s.beginTaking f).decideStationWrite f = s.refused f 3 0 := by
  rw [State.decideStationWrite, if_neg fun hc => hlen hc.1, s.judgeSet_badLength hlen]

/-- A STATION write of the right length to the SELF record is refused SELF_RECORD, whatever its fields (R75; R161, step 4). -/
theorem State.decideStationWrite_selfRecord (s : State) {f : FrameRecord} (hlen : f.payload.length = 4)
    (hself : f.object.toNat - 0x0100 = s.mgmtAddr) : (s.beginTaking f).decideStationWrite f = s.refused f 5 0 :=
  if_pos ⟨hlen, hself⟩

/-- The length that a SET of the step's object must have, where the object fixes one (R161, R166 to R174). -/
def Taking.setLength : Taking → Option Nat
  | .factorLevels => some 11
  | .uPort => some 6
  | .dPort => some 6
  | .timing => some 8
  | .policy => some 2
  | .pause => some 2
  | .flush => some 1
  | .clear => some 0
  | .restart => some 0
  | .station => some 4
  | _ => none

theorem State.decide_badLength (s : State) {f : FrameRecord} {t : Taking} {len : Nat} (before : Handler)
    (ht : t.setLength = some len) (hlen : f.payload.length ≠ len) :
    (s.beginTaking f).decide t before f = s.refused f 3 0 := by
  cases t with
  | stationRequest | note | uAnswerFrame | factorAck | countersReadClear | portCountersReadClear
  | managementRequest => cases ht
  | station =>
    cases ht
    exact s.decideStationWrite_badLength hlen
  | factorLevels | uPort | dPort | timing | policy | pause | flush | clear | restart =>
    cases ht
    simp only [State.decide, State.decideFactorLevels, State.decideUPort, State.decideDPort, State.decideTiming,
      State.decidePolicy, State.decidePause, State.decideFlush, State.decideClear, State.decideRestart,
      s.judgeSet_badLength hlen]

/-- The step of a SET whose object fixes its length refuses any other length (R161, step 3). -/
theorem State.exec_badLength {s : State} {f : FrameRecord} {n len : Nat} (h : s.CanManage f .set n)
    (ht : (managementTaking .set (.ofNumber n)).setLength = some len) (hlen : f.payload.length ≠ len) :
    exec (managementTaking .set (.ofNumber n)).command s = .next (s.refused f 3 0) := by
  rw [State.exec_of_canManage h (.inr rfl), s.decide_badLength s.handler ht hlen]

/-- A STATION write is taken by its own step (R160). -/
theorem managementTaking_station {a : Nat} (ha : isStation a = true) :
    managementTaking .set (.ofNumber (0x0100 + a)) = .station := by
  rw [Object.ofNumber_station ha]
  rfl

/-- Settles O42: a request that is refused for its object or its kind goes to MANAGEMENT_REQUEST, and a SET of a wrong length to the step
of its object, which judges the length first. -/
theorem requestsAreRefusedForObjectKindAndLength : Obligations.RequestsAreRefusedForObjectKindAndLength := by
  refine ⟨fun s f kind n h hk => ?_, fun s f c n len hmem h hlen => ?_,
    fun s f a ha h => ⟨fun hlen => ?_, fun hlen hself => ?_⟩⟩
  · refine ⟨fun hunknown => State.exec_unknownObject h hk (Object.ofNumber_unknown hunknown), ?_, ?_⟩
    · rintro rfl hn
      exact State.exec_wrongKind h hk rfl (Object.wrongKind_ask hn)
    · rintro rfl hn
      exact State.exec_wrongKind h hk rfl (Object.wrongKind_set hn)
  · simp only [List.mem_cons, List.not_mem_nil, or_false, Prod.mk.injEq] at hmem
    rcases hmem with ⟨rfl, rfl, rfl⟩ | ⟨rfl, rfl, rfl⟩ | ⟨rfl, rfl, rfl⟩ | ⟨rfl, rfl, rfl⟩ | ⟨rfl, rfl, rfl⟩ |
      ⟨rfl, rfl, rfl⟩ | ⟨rfl, rfl, rfl⟩ | ⟨rfl, rfl, rfl⟩ | ⟨rfl, rfl, rfl⟩
    all_goals exact State.exec_badLength h rfl hlen
  · have hrefused := State.exec_badLength h (len := 4) (by rw [managementTaking_station ha]; rfl) hlen
    rwa [managementTaking_station ha] at hrefused
  · have hexec := State.exec_of_canManage h (.inr rfl)
    rw [managementTaking_station ha] at hexec
    obtain ⟨-, -, -, hobject⟩ := h
    exact hexec.trans (congrArg _ (s.decideStationWrite_selfRecord hlen (by omega)))

/-! ### POLICY (R112, R113, R169) -/

/-- A POLICY SET is judged by its length and its two fields (R161, R169). -/
theorem State.exec_policy {s : State} {f : FrameRecord} (h : s.CanManage f .set 0x0013) :
    exec .policy s = .next ((s.beginTaking f).judgeSet 2 policyFields .plain State.writePolicy f) :=
  State.exec_of_canManage h (.inr rfl)

/-- The code of a policy in the words of the statement (R177). -/
theorem Policy.code_eq_ite (p : Policy) : p.code = if p = .opened then 1 else 0 := by cases p <;> rfl

/-- Settles O45: the two bytes are two fields with the range 0 to 1, and a full restart leaves what RESET_END leaves (O8). -/
theorem policyCarriesDiscoveryAndForwarding : Obligations.PolicyCarriesDiscoveryAndForwarding := by
  refine ⟨fun s f h hlen => ⟨fun h0 h1 => ?_, fun h0 => ?_, fun h0 h1 => ?_⟩, fun s f h => ?_,
    fun s straps => ⟨s.restarted straps, rfl, rfl, rfl⟩, fun s straps f left hr htx hh => ?_⟩
  · have hfields : firstBad (policyFields f.payload) = none := by
      rw [policyFields, decide_eq_true h0, decide_eq_true h1]
      rfl
    rw [State.exec_policy h, State.judgeSet_accepted hlen hfields]
    rfl
  · have hfields : firstBad (policyFields f.payload) = some 1 := by
      rw [policyFields, decide_eq_false (Nat.not_le.2 h0), firstBad_cons_false]
    rw [State.exec_policy h, s.judgeSet_badValue hlen hfields]
  · have hfields : firstBad (policyFields f.payload) = some 2 := by
      rw [policyFields, decide_eq_true h0, decide_eq_false (Nat.not_le.2 h1), firstBad_cons_true, firstBad_cons_false]
      rfl
    rw [State.exec_policy h, s.judgeSet_badValue hlen hfields]
  · rw [State.exec_read (o := .policy) h rfl ⟨rfl, rfl⟩, State.readObject, s.policy.code_eq_ite]
    rfl
  · obtain ⟨_, ⟨⟩, hrestart⟩ := fullRestartAtTheEndOfItsDone.1 s straps f left hr htx hh
    exact ⟨_, hrestart, rfl, rfl⟩

/-! ### The read-and-clears and their memory (R33, R85, R175, R178) -/

/-- The memory holds the answer to a request for the same object with the same TAG (R178). -/
def State.RepeatsStored (s : State) (f : FrameRecord) : Prop :=
  ∃ m, s.memory = some m ∧ m.object = f.object ∧ m.tag = f.tag

theorem State.storedFor_of_matches {s : State} {f : FrameRecord} {m : StoredAnswer} (hm : s.memory = some m)
    (hobject : m.object = f.object) (htag : m.tag = f.tag) : s.storedFor f = some m.payload := by
  simp only [State.storedFor, hm, hobject, htag, and_self, if_true]

theorem State.storedFor_eq_none {s : State} {f : FrameRecord} (h : ¬ s.RepeatsStored f) : s.storedFor f = none := by
  unfold State.storedFor
  split
  · next m hm => exact if_neg fun hsame => h ⟨m, hm, hsame⟩
  · rfl

/-- A matching repeat is answered from the memory, and nothing is cleared (R178). -/
theorem State.readAndClear_of_matches {s : State} {f : FrameRecord} {m : StoredAnswer} (hm : s.memory = some m)
    (hobject : m.object = f.object) (htag : m.tag = f.tag) (clear : State → State) (payload : List Byte) :
    (s.beginTaking f).readAndClear clear payload f = s.answeredWith f .data s.summary m.payload .plain := by
  have hstored : (s.beginTaking f).storedFor f = some m.payload := State.storedFor_of_matches hm hobject htag
  rw [State.readAndClear, hstored]
  rfl

/-- Any other read-and-clear clears, and its answer is stored and sent (R175, R178). -/
theorem State.readAndClear_of_not_repeats {s : State} {f : FrameRecord} (h : ¬ s.RepeatsStored f) (clear : State → State)
    (payload : List Byte) :
    (s.beginTaking f).readAndClear clear payload f =
      ({ clear (s.beginTaking f).forgetMemory with memory := some ⟨f.object, f.tag, payload⟩ } : State).answerManagement
        f .data payload .plain := by
  have hstored : (s.beginTaking f).storedFor f = none := State.storedFor_eq_none h
  rw [State.readAndClear, hstored]

/-- COUNTERS s is read and cleared for the station that the object number names (R85). -/
theorem State.exec_countersReadClear {s : State} {f : FrameRecord} {a : Nat} (ha : isStation a = true)
    (h : s.CanManage f .ask (0x0300 + a)) :
    exec .countersReadClear s = .next ((s.beginTaking f).readAndClear (State.clearStationCounters a)
      (s.stationAt a).counters.toPayload f) := by
  have hexec : exec .countersReadClear s = .next ((s.beginTaking f).decideCountersReadClear f) := by
    have he := State.exec_of_canManage h (.inl rfl)
    rwa [Object.ofNumber_countersReadClear ha] at he
  obtain ⟨-, -, -, hobject⟩ := h
  rw [hexec, State.decideCountersReadClear, hobject, Nat.add_sub_cancel_left]
  rfl

/-- PORT_COUNTERS is read and cleared for both ports at once (R33). -/
theorem State.exec_portCountersReadClear {s : State} {f : FrameRecord} (h : s.CanManage f .ask 0x0401) :
    exec .portCountersReadClear s = .next ((s.beginTaking f).readAndClear State.clearPortCounters s.portCountersPayload f) :=
  State.exec_of_canManage h (.inl rfl)

/-- Settles O52: both read-and-clears are one operation, which the memory sends one of two ways (`readAndClear_of_matches`,
`readAndClear_of_not_repeats`). -/
theorem readAndClearIsRepeatedFromItsMemory : Obligations.ReadAndClearIsRepeatedFromItsMemory := by
  intro s f isRepeat kept
  refine ⟨?_, fun a ha h hnew => ?_, fun h hnew => ?_⟩
  · rintro c m (⟨rfl, a, ha, h⟩ | ⟨rfl, h⟩) hm hobject htag
    · rw [State.exec_countersReadClear ha h, State.readAndClear_of_matches hm hobject htag]
    · rw [State.exec_portCountersReadClear h, State.readAndClear_of_matches hm hobject htag]
  · rw [State.exec_countersReadClear ha h, State.readAndClear_of_not_repeats hnew, State.clearStationCounters,
      State.updateStation_eq _ _ _ ha]
    rfl
  · rw [State.exec_portCountersReadClear h, State.readAndClear_of_not_repeats hnew]
    rfl

end Sys2Proof.Machine
end

section
/-! The step runs the front command (O1), and every command ends in a next state and keeps the queue (O4): what each operation of the
part leaves of the queue, in the order of the definitions. -/

namespace Sys2Proof.Machine

/-- Settles O1: with a command at its front the queue takes `step` to its first branch. -/
theorem stepRunsTheFrontCommand : Obligations.StepRunsTheFrontCommand := fun _ _ _ => rfl

/-! ### The Dispatcher (chapter 6) -/

@[simp] theorem State.dispatchAnswer_pending (f : FrameRecord) (s : State) :
    (s.dispatchAnswer f).pending = s.pending := by
  unfold State.dispatchAnswer
  dsimp only
  split
  · simp
  all_goals
    split
    · split <;> simp
    · simp

@[simp] theorem State.dispatchForeign_pending (s : State) : s.dispatchForeign.pending = s.pending := by
  simp [State.dispatchForeign]

@[simp] theorem State.emptyDSlot_pending (s : State) : s.emptyDSlot.pending = s.pending := rfl

@[simp] theorem State.dTakeNow_pending (s : State) : s.dTakeNow.pending = s.pending := by
  unfold State.dTakeNow
  split
  · split
    · split <;> simp
    · rfl
  · rfl

@[simp] theorem State.select_pending (s : State) : s.select.pending = s.pending := by
  unfold State.select
  split
  · split
    · split <;> simp
    · rfl
  · rfl

@[simp] theorem State.replyExpiry_pending (s : State) : s.replyExpiry.pending = s.pending := by
  unfold State.replyExpiry
  split
  · split
    · rfl
    · split <;> simp
  all_goals rfl

/-! ### The Request Handler: its answers and decisions (chapter 5) -/

@[simp] theorem State.answer_pending (f : FrameRecord) (k : Kind) (s : State) : (s.answer f k).pending = s.pending := rfl

@[simp] theorem State.answerRepeat_pending (f : FrameRecord) (i : Nat) (x : Exchange) (s : State) :
    (s.answerRepeat f i x).pending = s.pending := by
  unfold State.answerRepeat
  split
  · simp [State.deliver]
  all_goals rfl

@[simp] theorem State.refuseBusy_pending (f : FrameRecord) (s : State) : (s.refuseBusy f).pending = s.pending := by
  simp [State.refuseBusy]

@[simp] theorem State.judgeNew_pending (f : FrameRecord) (s : State) : (s.judgeNew f).pending = s.pending := by
  unfold State.judgeNew
  split
  · rfl
  split
  · rfl
  split
  · simp
  · split <;> simp [State.admitAndAnswer]

@[simp] theorem State.matchOrAdmit_pending (f : FrameRecord) (s : State) : (s.matchOrAdmit f).pending = s.pending := by
  unfold State.matchOrAdmit
  split
  · split <;> simp
  · simp

@[simp] theorem State.decideUnknown_pending (f : FrameRecord) (s : State) :
    (s.decideUnknown f).pending = s.pending := by
  unfold State.decideUnknown
  split
  · simp
  · split
    · rfl
    · split <;> rfl

@[simp] theorem State.decideStation_pending (f : FrameRecord) (s : State) :
    (s.decideStation f).pending = s.pending := by
  unfold State.decideStation
  split
  · split <;> simp
  · rfl

@[simp] theorem State.decideNote_pending (f : FrameRecord) (s : State) : (s.decideNote f).pending = s.pending := by
  unfold State.decideNote
  split
  · split
    · rfl
    · split <;> simp
  · rfl

@[simp] theorem State.clashCheck_pending (f : FrameRecord) (s : State) : (s.clashCheck f).pending = s.pending := by
  unfold State.clashCheck
  split <;> simp

@[simp] theorem State.decideAnswer_pending (before : Handler) (f : FrameRecord) (s : State) :
    (s.decideAnswer before f).pending = s.pending := by
  unfold State.decideAnswer
  split
  · split <;> simp
  all_goals simp

/-! ### The Management Unit (chapter 9) -/

@[simp] theorem State.answerManagement_pending (f : FrameRecord) (k : Kind) (payload : List Byte) (m : AnswerMark)
    (s : State) : (s.answerManagement f k payload m).pending = s.pending := rfl

@[simp] theorem State.refuse_pending (f : FrameRecord) (r : Reason) (k : Nat) (s : State) :
    (s.refuse f r k).pending = s.pending := rfl

/-- A SET keeps the queue if its effect does (R161). -/
theorem State.judgeSet_pending {effect : List Byte → State → State}
    (he : ∀ payload s, (effect payload s).pending = s.pending) (len : Nat) (fields : List Byte → List Bool)
    (m : AnswerMark) (f : FrameRecord) (s : State) : (s.judgeSet len fields m effect f).pending = s.pending := by
  unfold State.judgeSet
  dsimp only
  split
  · rfl
  · split <;> simp [he]

@[simp] theorem State.writePending_pending (p : Port) (payload : List Byte) (s : State) :
    (s.writePending p payload).pending = s.pending := by
  cases p <;> rfl

@[simp] theorem State.pauseFor_pending (d : Nat) (s : State) : (s.pauseFor d).pending = s.pending := by
  unfold State.pauseFor
  split <;> simp

@[simp] theorem State.storeStation_pending (a : Nat) (side : Side) (payload : List Byte) (s : State) :
    (s.storeStation a side payload).pending = s.pending := by
  unfold State.storeStation
  dsimp only
  split <;> simp

@[simp] theorem State.writeStation_pending (a : Nat) (side : Side) (payload : List Byte) (s : State) :
    (s.writeStation a side payload).pending = s.pending := by
  unfold State.writeStation
  split <;> simp

theorem State.decideStationWrite_pending (f : FrameRecord) (s : State) :
    (s.decideStationWrite f).pending = s.pending := by
  unfold State.decideStationWrite
  dsimp only
  split
  · rfl
  · exact State.judgeSet_pending (fun _ _ => State.writeStation_pending _ _ _ _) _ _ _ _ _

/-- A read-and-clear keeps the queue if its clearing does (R175). -/
theorem State.readAndClear_pending {clear : State → State} (hc : ∀ s, (clear s).pending = s.pending)
    (payload : List Byte) (f : FrameRecord) (s : State) : (s.readAndClear clear payload f).pending = s.pending := by
  unfold State.readAndClear
  split
  · rfl
  · simp [hc]

theorem State.decideManagementRequest_pending (f : FrameRecord) (s : State) :
    (s.decideManagementRequest f).pending = s.pending := by
  unfold State.decideManagementRequest
  dsimp only
  split
  · rfl
  · split <;> rfl

/-! ### Taking a frame (R26) -/

@[simp] theorem State.decide_pending (t : Taking) (before : Handler) (f : FrameRecord) (s : State) :
    (s.decide t before f).pending = s.pending := by
  cases t with
  | stationRequest => exact s.decideStation_pending f
  | note => exact s.decideNote_pending f
  | uAnswerFrame => exact s.decideAnswer_pending before f
  | factorAck | factorLevels | timing | policy | restart =>
    exact State.judgeSet_pending (by intros; rfl) _ _ _ _ _
  | uPort | dPort => exact State.judgeSet_pending (State.writePending_pending _) _ _ _ _ _
  | pause => exact State.judgeSet_pending (fun _ => State.pauseFor_pending _) _ _ _ _ _
  | flush => exact State.judgeSet_pending (fun _ => State.flush_pending _) _ _ _ _ _
  | clear => exact State.judgeSet_pending (fun _ => State.clearExchanges_pending) _ _ _ _ _
  | station => exact s.decideStationWrite_pending f
  | countersReadClear => exact State.readAndClear_pending (fun _ => State.updateStation_pending _ _ _) _ _ _
  | portCountersReadClear => exact State.readAndClear_pending (by intros; rfl) _ _ _
  | managementRequest => exact s.decideManagementRequest_pending f

@[simp] theorem State.uTakeNow_pending (s : State) : s.uTakeNow.pending = s.pending := by
  unfold State.uTakeNow
  split <;> simp

theorem State.takeAs_pending (t : Taking) (s : State) :
    (s.takeAs t (State.decide t s.handler)).pending = s.pending := by
  unfold State.takeAs
  split
  · split <;> simp
  · rfl

@[simp] theorem State.takeStored_pending (p : Port) (s : State) : (s.takeStored p).pending = s.pending := by
  cases p
  · exact s.uTakeNow_pending
  · exact s.dTakeNow_pending

@[simp] theorem State.windowExpiry_pending (s : State) : s.windowExpiry.pending = s.pending := by
  unfold State.windowExpiry
  split
  · split <;> simp
  all_goals rfl

/-! ### The ports (chapter 2) -/

@[simp] theorem State.reportLost_pending (p : Port) (s : State) : (s.reportLost p).pending = s.pending := by
  cases p with
  | u =>
    unfold State.reportLost
    dsimp only
    split <;> rfl
  | d => exact s.waitedTimeout_pending

@[simp] theorem State.loseFrame_pending (p : Port) (c : PortCounter) (s : State) :
    (s.loseFrame p c).pending = s.pending := by
  simp [State.loseFrame]

@[simp] theorem State.storeFrame_pending (p : Port) (f : FrameRecord) (s : State) :
    (s.storeFrame p f).pending = s.pending := by
  unfold State.storeFrame
  split <;> simp

@[simp] theorem State.endFrame_pending (p : Port) (chars : List Byte) (e : Option CharError) (s : State) :
    (s.endFrame p chars e).pending = s.pending := by
  unfold State.endFrame
  split <;> simp

@[simp] theorem State.huntCharacter_pending (p : Port) (ch : RxChar) (s : State) :
    (s.huntCharacter p ch).pending = s.pending := by
  unfold State.huntCharacter
  split <;> simp

@[simp] theorem State.collectCharacter_pending (p : Port) (ch : RxChar) (chars : List Byte) (e : Option CharError)
    (s : State) : (s.collectCharacter p ch chars e).pending = s.pending := by
  unfold State.collectCharacter
  dsimp only
  split
  · simp
  · split <;> simp

@[simp] theorem State.deliverCharacter_pending (p : Port) (ch : RxChar) (s : State) :
    (s.deliverCharacter p ch).pending = s.pending := by
  unfold State.deliverCharacter
  dsimp only
  split <;> simp

@[simp] theorem State.lineEvent_pending (p : Port) (e : LineEvent) (s : State) :
    (s.lineEvent p e).pending = s.pending := by
  cases e with
  | startEdge => exact State.updatePort_pending _ _ _
  | samples levels =>
    unfold State.lineEvent State.endCharacter
    dsimp only
    split
    · simp
    · split <;> simp

@[simp] theorem State.gapExpiry_pending (p : Port) (s : State) : (s.gapExpiry p).pending = s.pending := by
  unfold State.gapExpiry
  split <;> simp

@[simp] theorem State.endSending_pending (p : Port) (s : State) : (s.endSending p).pending = s.pending := by
  simp [State.endSending]

/-- The full restart sets every block but not the queue (R38). -/
@[simp] theorem State.fullRestart_pending (straps : Straps) (s : State) :
    (s.fullRestart straps).pending = s.pending := rfl

@[simp] theorem State.answerGone_pending (straps : Straps) (s : State) : (s.answerGone straps).pending = s.pending := by
  unfold State.answerGone
  split <;> simp

@[simp] theorem State.requestGone_pending (s : State) : s.requestGone.pending = s.pending := by
  unfold State.requestGone
  split
  · split
    · split <;> simp
    · simp
  all_goals rfl

@[simp] theorem State.reportSent_pending (p : Port) (straps : Straps) (s : State) :
    (s.reportSent p straps).pending = s.pending := by
  cases p
  · exact s.answerGone_pending straps
  · exact s.requestGone_pending

/-! ### The timers of the tables (chapters 3 and 7) -/

@[simp] theorem State.reAskExpiry_pending (i : Nat) (s : State) : (s.reAskExpiry i).pending = s.pending := by
  unfold State.reAskExpiry
  split
  · split <;> rfl
  · rfl

@[simp] theorem State.discardOutcome_pending (i : Nat) (x : Exchange) (o : HeldOutcome) (s : State) :
    (s.discardOutcome i x o).pending = s.pending := by
  unfold State.discardOutcome
  dsimp only
  split <;> simp

@[simp] theorem State.collectionExpiry_pending (i : Nat) (s : State) : (s.collectionExpiry i).pending = s.pending := by
  unfold State.collectionExpiry
  split
  · split <;> simp
  · rfl

@[simp] theorem State.stepStation_pending (a : Nat) (s : State) : (s.stepStation a).pending = s.pending := by
  unfold State.stepStation
  split <;> simp

/-- The records' shares of a step expiry, whichever records they are (R138). -/
theorem State.foldl_stepStation_pending (ks : List Nat) (s : State) :
    (ks.foldl (fun t k => t.stepStation (k + 1)) s).pending = s.pending := by
  induction ks generalizing s with
  | nil => rfl
  | cons k ks ih => exact (ih _).trans (s.stepStation_pending _)

@[simp] theorem State.ladderExpiry_pending (s : State) : s.ladderExpiry.pending = s.pending := by
  simp only [State.ladderExpiry, State.foldl_stepStation_pending]

/-! ### The commands -/

/-- A command whose condition may fail keeps the queue if what it does under its condition does (log 2). -/
theorem State.ite_pending {c : Prop} [Decidable c] {s t u : State} (ht : t.pending = s.pending) (hu : u.pending = s.pending) :
    (if c then t else u).pending = s.pending := by
  split <;> assumption

/-- Settles O4: what each command does, by the operation it is made of, keeps the queue. -/
theorem everyCommandCompletesAndKeepsTheQueue : Obligations.EveryCommandCompletesAndKeepsTheQueue := by
  intro c s
  cases c with
  | resetNLow | resetEnd straps => exact ⟨_, rfl, rfl⟩
  | characterReceived p e => exact ⟨_, rfl, by simp⟩
  | gapLimitExpiry p => exact ⟨_, rfl, State.ite_pending (by simp) (by simp)⟩
  | transmitStart p => exact ⟨_, rfl, State.ite_pending (by simp) (by simp)⟩
  | frameSent p straps => exact ⟨_, rfl, State.ite_pending (by simp) rfl⟩
  | deafPeriodEnd => exact ⟨_, rfl, State.ite_pending rfl rfl⟩
  | discoveryWindowExpiry =>
    refine ⟨_, rfl, State.ite_pending ?_ rfl⟩
    split
    · exact s.uTakeNow_pending
    · exact s.windowExpiry_pending
  | selection => exact ⟨_, rfl, by simp⟩
  | dAnswerFrame | foreignRequest => exact ⟨_, rfl, State.ite_pending s.dTakeNow_pending rfl⟩
  | replyTimeout => exact ⟨_, rfl, State.ite_pending (by simp) rfl⟩
  | reAskExpiry i => exact ⟨_, rfl, State.ite_pending (s.reAskExpiry_pending i) rfl⟩
  | collectionExpiry i => exact ⟨_, rfl, State.ite_pending (s.collectionExpiry_pending i) rfl⟩
  | pauseTimerExpiry =>
    refine ⟨_, rfl, State.ite_pending ?_ rfl⟩
    split <;> rfl
  | ladderStep => exact ⟨_, rfl, State.ite_pending s.ladderExpiry_pending rfl⟩
  | stationRequest | note | uAnswerFrame | factorAck | factorLevels | uPort | dPort | timing | policy | pause | flush | clear
  | restart | station | countersReadClear | portCountersReadClear | managementRequest =>
    exact ⟨_, rfl, State.takeAs_pending _ s⟩

end Sys2Proof.Machine
end
